-- ==== Sys2Proof/Word.lean ====
section
/-! DEFINITION. The words of the CRC-8 checksum validator block (spec/00_scope.md R9) and the plain data its
messages carry: opaque handles and error codes, timeouts, the six bytes of a response. No operation lives here
but the layout of a response as a list of bytes. -/

namespace Sys2Proof

/-- A byte: 8 bits, bit 7 the most significant (R9). -/
abbrev Byte := BitVec 8

/-- A word of a response: 16 bits, unsigned (R9, R85). -/
abbrev Word16 := BitVec 16

/-- The serial-number register: 32 bits, unsigned (R20, R87). -/
abbrev Word32 := BitVec 32

/-- The content of `TEMP_Q16` or `RH_Q16`: a two's-complement word of `RESULT_WIDTH` bits (R7, R20, R87). The width is
a parameter of the block, so it goes with the bits; `Inv` (Safety.lean) says that it is the block's. -/
structure ResultWord where
  width : Nat
  bits : BitVec width
deriving DecidableEq, Repr, Inhabited

/-- The document's `transportBus`, opaque to the block (R38, D12); the token stands for whatever it is. -/
structure BusHandle where
  token : Nat
deriving DecidableEq, Repr, Inhabited

/-- The transport-device reference held in `DEVH`, opaque to the block (R26, D12). -/
structure DevHandle where
  token : Nat
deriving DecidableEq, Repr, Inhabited

/-- The transport's native error code held in `ERRDETAIL`, opaque to the block (R29, D12). -/
structure ErrCode where
  token : Nat
deriving DecidableEq, Repr, Inhabited

/-- The transport's timeout type: a value, or wait indefinitely (R38, R209, D11). -/
inductive Timeout where
  | infinite
  | finite (amount : Nat)
deriving DecidableEq, Repr, Inhabited

/-- The Command type of ENC, an enumeration of two values (R100). -/
inductive Command where
  | measureHighPrecision
  | readSerialNumber
deriving DecidableEq, Repr, Inhabited

/-- `OPR`: the operation in flight (R20). -/
inductive Opr where
  | init
  | meas
  | rdsn
deriving DecidableEq, Repr, Inhabited

/-- `PHASE`: where the sequencer stands (R20, R23). -/
inductive Phase where
  | idle
  | attachWait
  | xferWait
deriving DecidableEq, Repr, Inhabited

/-- `RES_KIND`: which result registers hold a valid result (R20). -/
inductive ResKind where
  | none
  | measurement
  | serial
deriving DecidableEq, Repr, Inhabited

/-- The outcomes of an operation (R191); the number `STATUS` takes for each is a parameter (R7, D13). -/
inductive StatusKind where
  | ok
  | busAttachError
  | deviceNotResponding
  | transportError
  | checksumError
  | illegalRequest
deriving DecidableEq, Repr, Inhabited

/-- Format `RSP48`: the six bytes of a response in wire order, `b0` the first on the wire (R83). -/
structure Rsp48 where
  b0 : Byte
  b1 : Byte
  b2 : Byte
  b3 : Byte
  b4 : Byte
  b5 : Byte
deriving DecidableEq, Repr, Inhabited

/-- The six bytes of a response as a list, in wire order (R83). -/
def Rsp48.bytes (r : Rsp48) : List Byte := [r.b0, r.b1, r.b2, r.b3, r.b4, r.b5]

end Sys2Proof
end

