-- ==== Sys2Proof/Config.lean ====
section
/-! DEFINITION. The parameters of one block (spec/00_scope.md R7), one field per row of its table, with the row's
value as the default; what an admissible choice of them is; and the free values (93_implementation_defined.md
U7, U8, U9) as opaque constants. -/

namespace Sys2Proof

/-- The rows of R7 the wire and the scratch buffer are made of; all of them "fixed". -/
structure WireParams where
  /-- `DEVICE_ADDR` -/
  deviceAddr : BitVec 7 := 0x44#7
  /-- `BUS_SPEED_DEFAULT`, in Hz (R38) -/
  busSpeedDefault : Nat := 100000
  /-- `OPC_MEAS_HP` -/
  opcMeasHp : Byte := 0xFD#8
  /-- `OPC_READ_SN` -/
  opcReadSn : Byte := 0x89#8
  /-- `CMD_LEN` -/
  cmdLen : Nat := 1
  /-- `RESP_LEN` -/
  respLen : Nat := 6
  /-- `SCRATCH_LEN` -/
  scratchLen : Nat := 6
deriving DecidableEq, Repr

/-- The CRC rows of R7 (R121). -/
structure CrcParams where
  /-- `CRC_WIDTH`; the register's Lean type has this width -/
  width : Nat := 8
  /-- `CRC_INIT` -/
  init : Byte := 0xFF#8
  /-- `CRC_POLY`, without the x^8 term -/
  poly : Byte := 0x31#8
  /-- `CRC_REFIN` -/
  refin : Bool := false
  /-- `CRC_REFOUT` -/
  refout : Bool := false
  /-- `CRC_XOROUT` -/
  xorout : Byte := 0x00#8
deriving DecidableEq, Repr

/-- The whole CRC as ONE configuration field (R121): the bit-serial function of R122 under the parameters of R7,
or any function of two bytes written out as its list of 65536 values (the value of `hi, lo` stands at
`256 * hi + lo`; notes/assumptions/4.md). -/
inductive CrcFunction where
  | bitSerial (p : CrcParams)
  | tabulated (values : List Byte)
deriving DecidableEq, Repr

/-- `ROUNDING` (R7, D7): how the exact value is brought to `FRAC_BITS`. The block's is `floor`. -/
inductive Rounding where
  | floor
  | nearest
deriving DecidableEq, Repr

/-- `WORD_ORDER` (R7, D8): which response word holds which quantity. The block's is `temperatureFirst`. -/
inductive WordOrder where
  | temperatureFirst
  | humidityFirst
deriving DecidableEq, Repr

/-- The converter's rows of R7. -/
structure ConvParams where
  /-- `TICK_DIV` -/
  tickDiv : Nat := 65535
  /-- `T_OFFSET` -/
  tOffset : Int := -45
  /-- `T_SPAN` -/
  tSpan : Int := 175
  /-- `RH_OFFSET` -/
  rhOffset : Int := -6
  /-- `RH_SPAN` -/
  rhSpan : Int := 125
  /-- `T_MAX` -/
  tMax : Int := 100
  /-- `RH_MIN` -/
  rhMin : Int := 0
  /-- `T_MIN`, OPEN (R141) -/
  tMin : Option Int := none
  /-- `RH_MAX`, OPEN (R141) -/
  rhMax : Option Int := none
  /-- `FRAC_BITS` -/
  fracBits : Nat := 16
  /-- `RESULT_WIDTH` -/
  resultWidth : Nat := 32
  rounding : Rounding := .floor
  wordOrder : WordOrder := .temperatureFirst
deriving DecidableEq, Repr

/-- The row "error code numbers" of R7 (D13): the numbers `STATUS` takes (R191). -/
structure StatusCodes where
  ok : BitVec 3 := 0
  busAttachError : BitVec 3 := 1
  deviceNotResponding : BitVec 3 := 2
  transportError : BitVec 3 := 3
  checksumError : BitVec 3 := 4
  illegalRequest : BitVec 3 := 5
deriving DecidableEq, Repr

/-- The row "host operation select numbers" of R7 (D14): the numbers `OP` takes (R86); the fourth is reserved. -/
structure OpSelect where
  opInit : BitVec 2 := 0
  opMeas : BitVec 2 := 1
  opRdsn : BitVec 2 := 2
deriving DecidableEq, Repr

/-- The configuration record R7 asks for: every parameter of one block, fixed while it runs. -/
structure Config where
  wire : WireParams := {}
  crc : CrcFunction := .bitSerial {}
  conv : ConvParams := {}
  codes : StatusCodes := {}
  opSel : OpSelect := {}
  /-- `INIT_CRC_FATAL`, OPEN (R164, D10) -/
  initCrcFatal : Bool := false
  /-- `TIMEOUT_DEFAULT` -/
  timeoutDefault : Timeout := .infinite
  /-- `BUSH_W`, OPEN: `none` is the abstract type of D12 -/
  bushW : Option Nat := none
  /-- `DEVH_W`, OPEN -/
  devhW : Option Nat := none
  /-- `XERR_W`, OPEN -/
  xerrW : Option Nat := none
deriving DecidableEq, Repr

/-- Every parameter at the value of R7's table. -/
def Config.default : Config := {}

/-- The requirement of R141 on the two optional clamps: they do not cross the two that are always there. -/
def ConvParams.clampsDoNotCross (c : ConvParams) : Bool :=
  (match c.tMin with | none => true | some m => decide (m ≤ 100)) &&
  (match c.rhMax with | none => true | some m => decide (0 ≤ m))

/-- The fixed width and the decided seed of the CRC (R7, D3); a tabulated CRC has neither to check. -/
def CrcFunction.seedAndWidth (f : CrcFunction) : Bool :=
  match f with
  | .bitSerial p => decide (p.width = 8) && decide (p.init = 0xFF#8)
  | .tabulated _ => true

/-- The parameters a block of this spec may have (R7): every row marked "fixed" or "decided" at its value, the
rows marked OPEN (the CRC but for its seed and width, `T_MIN`, `RH_MAX`, `INIT_CRC_FATAL`, the three opaque
widths) free but for the requirement of R141. -/
def Config.conforms (c : Config) : Bool :=
  decide (c.wire = {}) && c.crc.seedAndWidth &&
  decide ({ c.conv with tMin := none, rhMax := none } = ({} : ConvParams)) && c.conv.clampsDoNotCross &&
  decide (c.codes = {}) && decide (c.opSel = {}) && decide (c.timeoutDefault = .infinite)

/-- The number `STATUS` takes for an outcome (R191). -/
def StatusCodes.number (c : StatusCodes) (k : StatusKind) : BitVec 3 :=
  match k with
  | .ok => c.ok
  | .busAttachError => c.busAttachError
  | .deviceNotResponding => c.deviceNotResponding
  | .transportError => c.transportError
  | .checksumError => c.checksumError
  | .illegalRequest => c.illegalRequest

/-- The number `RES_KIND` is read as (R87). -/
def ResKind.number (k : ResKind) : BitVec 2 :=
  match k with
  | .none => 0
  | .measurement => 1
  | .serial => 2

/-- A token is one of an opaque type of the given width; `none` is the abstract type without a width (D12). -/
def fitsWidth (w : Option Nat) (token : Nat) : Bool :=
  match w with
  | none => true
  | some k => decide (token < 2 ^ k)

/-- The token cut to an opaque type's width, for free values of that type. -/
def cutToWidth (w : Option Nat) (token : Nat) : Nat :=
  match w with
  | none => token
  | some k => token % 2 ^ k

/-! Free values. Each is a constant with no body, applied to the counter `State.draws`, which every use advances:
nothing can be proved of a value so drawn (notes/assumptions/7.md, 9.md, 10.md, 24.md). -/

/-- A byte the spec leaves unspecified: `SCRATCH` after a failed transfer (R65) and after `rst` (R42). -/
opaque Config.freeByte : Nat → Byte

/-- `SERIAL` after `rst` (R42). -/
opaque Config.freeWord : Nat → Word32

/-- `TEMP_Q16` and `RH_Q16` after `rst` (R42): bits of any width. -/
opaque Config.freeBits : (width : Nat) → Nat → BitVec width

/-- An opaque handle or error code the spec leaves unspecified: `DEVH` after `rst` (R42), `ERRDETAIL` after
`rst` and after a `ChecksumError` (R29, R200). -/
opaque Config.freeToken : Nat → Nat

/-- `OPR` after `rst` (R42). -/
opaque Config.freeOpr : Nat → Opr

/-- `TMO` after `rst` (R42). -/
opaque Config.freeTimeout : Nat → Timeout

end Sys2Proof
end

