-- ==== Sys2Proof/Machine/Converter.lean ====
section
/-! DEFINITION. The converter CNV (spec/43_converter.md): the exact values, the unclamped fixed-point results, the
clamps, the two result registers. All arithmetic is exact, on integers, and is narrowed to a register at the end. -/

namespace Sys2Proof

/-- An exact result narrowed to a register of `width` bits (R7 `RESULT_WIDTH`, R87). -/
def ResultWord.ofInt (width : Nat) (v : Int) : ResultWord := { width := width, bits := BitVec.ofInt width v }

/-- The signed number a result register holds (R87). -/
def ResultWord.toInt (r : ResultWord) : Int := r.bits.toInt

end Sys2Proof

namespace Sys2Proof.Machine

/-- An exact quotient brought to an integer (R7 `ROUNDING`; the block's is `floor`, R139). -/
def quantise (r : Rounding) (num : Int) (den : Nat) : Int :=
  match r with
  | .floor => num / (den : Int)
  | .nearest => (2 * num + (den : Int)) / (2 * (den : Int))

/-- One unit of a result: `2^FRAC_BITS` (R11). -/
def fixedOne (c : ConvParams) : Int := 2 ^ c.fracBits

/-- The temperature's product (R139, R143), exact. -/
def tempProduct (c : ConvParams) (t : Word16) : Int := c.tSpan * fixedOne c * (t.toNat : Int)

/-- The humidity's product (R139, R143), exact. -/
def rhProduct (c : ConvParams) (h : Word16) : Int := c.rhSpan * fixedOne c * (h.toNat : Int)

/-- `T_raw` (R139): the product is formed first, exactly; the offset is added last. -/
def tempRaw (c : ConvParams) (t : Word16) : Int :=
  c.tOffset * fixedOne c + quantise c.rounding (tempProduct c t) c.tickDiv

/-- `RH_raw` (R139). -/
def rhRaw (c : ConvParams) (h : Word16) : Int :=
  c.rhOffset * fixedOne c + quantise c.rounding (rhProduct c h) c.tickDiv

/-- A lower clamp that may be absent (R141). -/
def clampBelow (u : Int) (bound : Option Int) (v : Int) : Int :=
  match bound with
  | none => v
  | some m => max v (m * u)

/-- An upper clamp that may be absent (R141). -/
def clampAbove (u : Int) (bound : Option Int) (v : Int) : Int :=
  match bound with
  | none => v
  | some m => min v (m * u)

/-- The clamped temperature (R140, R141). -/
def tempClamped (c : ConvParams) (t : Word16) : Int :=
  clampBelow (fixedOne c) c.tMin (min (tempRaw c t) (c.tMax * fixedOne c))

/-- The clamped humidity (R140, R141). -/
def rhClamped (c : ConvParams) (h : Word16) : Int :=
  clampAbove (fixedOne c) c.rhMax (max (rhRaw c h) (c.rhMin * fixedOne c))

/-- `TEMP_Q16` as CNV gives it (R135, R140). -/
def convertTemp (c : ConvParams) (t : Word16) : ResultWord := ResultWord.ofInt c.resultWidth (tempClamped c t)

/-- `RH_Q16` as CNV gives it (R135, R140). -/
def convertRh (c : ConvParams) (h : Word16) : ResultWord := ResultWord.ofInt c.resultWidth (rhClamped c h)

/-- `V_T`: the exact temperature in degrees Celsius (R137). -/
def exactTemp (c : ConvParams) (t : Word16) : ℚ := c.tOffset + c.tSpan * (t.toNat : ℚ) / (c.tickDiv : ℚ)

/-- `V_RH`: the exact relative humidity in percent (R137). -/
def exactRh (c : ConvParams) (h : Word16) : ℚ := c.rhOffset + c.rhSpan * (h.toNat : ℚ) / (c.tickDiv : ℚ)

end Sys2Proof.Machine
end

