-- ==== Sys2Proof/Machine/Crc.lean ====
section
/-! DEFINITION. The CRC unit's function (spec/42_crc8_validator.md R120 to R123). -/

namespace Sys2Proof.Machine

/-- The bits of a byte in reverse order, for `CRC_REFIN` and `CRC_REFOUT` (R7). -/
def reverseByte (b : Byte) : Byte :=
  BitVec.ofBoolListBE [b.getLsbD 0, b.getLsbD 1, b.getLsbD 2, b.getLsbD 3,
    b.getLsbD 4, b.getLsbD 5, b.getLsbD 6, b.getLsbD 7]

/-- One shift step of R122: bit 7 leaves the register and, if it was 1, the polynomial is XORed in. -/
def crcShift (poly c : Byte) : Byte :=
  if c.getLsbD 7 then (c <<< 1) ^^^ poly else c <<< 1

/-- `n` shift steps. -/
def crcShifts (poly : Byte) (n : Nat) (c : Byte) : Byte :=
  match n with
  | 0 => c
  | k + 1 => crcShifts poly k (crcShift poly c)

/-- One byte of R122's loop: XORed in, then 8 shift steps. -/
def crcByte (poly c b : Byte) : Byte := crcShifts poly 8 (c ^^^ b)

/-- R122's loop over a list of bytes in wire order. -/
def crcRun (poly c : Byte) (bs : List Byte) : Byte :=
  match bs with
  | [] => c
  | b :: rest => crcRun poly (crcByte poly c b) rest

/-- The byte as the CRC consumes it. -/
def crcIn (p : CrcParams) (b : Byte) : Byte := if p.refin then reverseByte b else b

/-- `crc8(hi, lo)` under the parameters of R121: the high byte first (R122, D24); the result reflected where
`CRC_REFOUT` says so, then XORed with `CRC_XOROUT` (notes/assumptions/4.md). -/
def crcBitSerial (p : CrcParams) (hi lo : Byte) : Byte :=
  let c := crcRun p.poly p.init [crcIn p hi, crcIn p lo]
  (if p.refout then reverseByte c else c) ^^^ p.xorout

/-- The block's CRC: the one configuration field of R121 as a function of the two bytes. -/
def crc8 (f : CrcFunction) (hi lo : Byte) : Byte :=
  match f with
  | .bitSerial p => crcBitSerial p hi lo
  | .tabulated values => values.getD (256 * hi.toNat + lo.toNat) 0#8

end Sys2Proof.Machine
end

