-- ==== Sys2Proof/Syntax.lean ====
section
/-! DEFINITION. The instruction set of the block (spec/00_scope.md R2): the two wire commands of format `CMD8` and
the three host operations of format `HREQ`, one constructor per row of spec/opcode_table.json. -/

namespace Sys2Proof

/-- The wire commands carry no operand (R81). A host operation carries the fields of `Req` it reads (R38): the
bus handle, the bus speed in Hz and the timeout of `initialize`, the timeout of the two reads. -/
inductive Instr where
  /-- `MEAS_HP`, MeasureHighPrecision (R105) -/
  | measHp
  /-- `READ_SN`, ReadSerialNumber (R106) -/
  | readSn
  /-- `initialize` (R177) -/
  | initializeDevice (bus : BusHandle) (speed : Nat) (timeout : Timeout)
  /-- `readMeasurement` (R169) -/
  | readMeasurement (timeout : Timeout)
  /-- `readSerialNumber` (R175) -/
  | readSerialNumber (timeout : Timeout)
deriving DecidableEq, Repr

end Sys2Proof
end

