-- ==== Sys2Proof/WellFormed.lean ====
section
/-! DEFINITION. What a well-formed instruction is: the opaque operand fits the port that carries it (R38, D12). -/

namespace Sys2Proof

/-- The bus handle of `initialize` is one of `BUSH_W` bits (R38); nothing else an instruction carries is bounded. -/
def Instr.wf (cfg : Config) (i : Instr) : Bool :=
  match i with
  | .measHp => true
  | .readSn => true
  | .initializeDevice bus _ _ => fitsWidth cfg.bushW bus.token
  | .readMeasurement _ => true
  | .readSerialNumber _ => true

end Sys2Proof
end

