-- ==== Sys2Proof/Decode.lean ====
section
/-! DEFINITION. The block's three encodings (spec/30_encoding.md): the command byte `CMD8`, the host request
`HREQ`, the response `RSP48`. The decoder is total and rejects by name; the encoder is written from the same
tables. -/

namespace Sys2Proof

/-- A frame that carries an instruction: a command byte (R81), or a host request with its 2-bit `op` field and its
undecoded operands (R86). -/
inductive Frame where
  | cmd8 (opcode : Byte)
  | hreq (op : BitVec 2) (bus : BusHandle) (speed : Nat) (timeout : Timeout)
deriving DecidableEq, Repr

/-- Why a frame carries no instruction. -/
inductive DecodeError where
  /-- one of the command bytes no command of this protocol subset has (R88, R89) -/
  | notACommand (opcode : Byte)
  /-- `op = 3` (R90): the sequencer answers it with `IllegalRequest` -/
  | reservedOp (op : BitVec 2)
deriving DecidableEq, Repr

/-- ENC: the opcode of a command (R101). -/
def Command.opcode (cfg : Config) (c : Command) : Byte :=
  match c with
  | .measureHighPrecision => cfg.wire.opcMeasHp
  | .readSerialNumber => cfg.wire.opcReadSn

/-- The partial inverse of ENC (R88). -/
def Command.ofOpcode (cfg : Config) (b : Byte) : Option Command :=
  if b = cfg.wire.opcMeasHp then some .measureHighPrecision
  else if b = cfg.wire.opcReadSn then some .readSerialNumber
  else none

/-- The instruction that is a wire command (R82). -/
def Command.instr (c : Command) : Instr :=
  match c with
  | .measureHighPrecision => .measHp
  | .readSerialNumber => .readSn

/-- The wire command a host operation sends (R102). -/
def Opr.command (o : Opr) : Command :=
  match o with
  | .init => .readSerialNumber
  | .meas => .measureHighPrecision
  | .rdsn => .readSerialNumber

/-- The instruction a frame carries (R82, R86). -/
def decode (cfg : Config) (f : Frame) : Except DecodeError Instr :=
  match f with
  | .cmd8 b =>
    match Command.ofOpcode cfg b with
    | some c => .ok c.instr
    | none => .error (.notACommand b)
  | .hreq op bus speed timeout =>
    if op = cfg.opSel.opInit then .ok (.initializeDevice bus speed timeout)
    else if op = cfg.opSel.opMeas then .ok (.readMeasurement timeout)
    else if op = cfg.opSel.opRdsn then .ok (.readSerialNumber timeout)
    else .error (.reservedOp op)

/-- The frame of an instruction (R82, R86). The fields of `Req` that the operation does not read are sent as
zero (notes/assumptions/18.md). -/
def encode (cfg : Config) (i : Instr) : Frame :=
  match i with
  | .measHp => .cmd8 (Command.opcode cfg .measureHighPrecision)
  | .readSn => .cmd8 (Command.opcode cfg .readSerialNumber)
  | .initializeDevice bus speed timeout => .hreq cfg.opSel.opInit bus speed timeout
  | .readMeasurement timeout => .hreq cfg.opSel.opMeas ⟨0⟩ 0 timeout
  | .readSerialNumber timeout => .hreq cfg.opSel.opRdsn ⟨0⟩ 0 timeout

/-- The `initialize` a host asks for when it has no other wish: the default bus speed and timeout (R38). -/
def Config.defaultInitialize (cfg : Config) (bus : BusHandle) : Instr :=
  .initializeDevice bus cfg.wire.busSpeedDefault cfg.timeoutDefault

/-- The decoded bits of a frame as the opcode table numbers them: how many, and their value (R80). -/
def Frame.tableWord (f : Frame) : Nat × Nat :=
  match f with
  | .cmd8 b => (8, b.toNat)
  | .hreq op _ _ _ => (2, op.toNat)

/-- The frame whose table bits are `w`. A value below 4 is the `op` field of a request, alone or zero-extended to
a byte (no command byte is below 4); any other byte is a command byte. Every operand is zero
(notes/assumptions/17.md). -/
def Frame.ofTableWord (nbits w : Nat) : Option Frame :=
  if 2 ^ nbits ≤ w then none
  else if w < 4 then some (.hreq (BitVec.ofNat 2 w) ⟨0⟩ 0 (.finite 0))
  else if w < 256 then some (.cmd8 (BitVec.ofNat 8 w))
  else none

/-- The instruction the decoder reads from the bits `w` of a row of spec/opcode_table.json. -/
def decodeTableWord (nbits w : Nat) : Option Instr :=
  match Frame.ofTableWord nbits w with
  | none => none
  | some f =>
    match decode Config.default f with
    | .ok i => some i
    | .error _ => none

/-- The response whose 48 bits are `v`, the first byte on the wire in the high bits (R83). -/
def Rsp48.ofBits (v : BitVec 48) : Rsp48 :=
  { b0 := v.extractLsb' 40 8, b1 := v.extractLsb' 32 8, b2 := v.extractLsb' 24 8,
    b3 := v.extractLsb' 16 8, b4 := v.extractLsb' 8 8, b5 := v.extractLsb' 0 8 }

/-- The 48 bits of a response, the first byte on the wire in the high bits (R83). -/
def Rsp48.toBits (r : Rsp48) : BitVec 48 :=
  r.b0 ++ r.b1 ++ r.b2 ++ r.b3 ++ r.b4 ++ r.b5

end Sys2Proof
end

