-- ==== Sys2Proof/Machine/State.lean ====
section
/-! DEFINITION. The state of one block (spec/10_state.md R20), the messages that pass its ports (R36, R38, R39,
R40), why a step can stop, and the state after reset (R42). -/

namespace Sys2Proof.Machine

/-- Memory as a list of (offset, byte) cells in the canonical form of `Memory.wf` (Ops.lean). -/
abbrev Memory := List Host.Cell

/-- What arrives at the block (R36, R38, R40): each is the event that enables one step (R12). -/
inductive Input where
  /-- a clock edge with `rst` high (R36) -/
  | rst
  /-- `Req(op, bus, speed, timeout)` (R38) -/
  | req (op : BitVec 2) (bus : BusHandle) (speed : Nat) (timeout : Timeout)
  /-- `AttachRsp` with `ok = 1` (R40) -/
  | attachOk (devh : DevHandle)
  /-- `AttachRsp` with `ok = 0` (R40) -/
  | attachFailed (err : ErrCode)
  /-- `XferRsp` with `ok = 1` and its six bytes, any six (R40, R63) -/
  | xferOk (rbytes : Rsp48)
  /-- `XferRsp` with `ok = 0` (R40, R64) -/
  | xferFailed (err : ErrCode)
deriving DecidableEq, Repr

/-- `Rsp` (R39): a copy of the registers. A field the message leaves without meaning (a `-` of R200 and R201, the
guards of R29 and R31) is `none` (notes/assumptions/11.md). -/
structure Response where
  status : BitVec 3
  errdetail : Option ErrCode
  crcfail : BitVec 2
  resKind : ResKind
  tempQ16 : Option ResultWord
  rhQ16 : Option ResultWord
  serial : Option Word32
deriving DecidableEq, Repr

/-- What the block emits (R39, R40). -/
inductive Output where
  /-- `Attach(bus, address, speed)` -/
  | attach (bus : BusHandle) (address : BitVec 7) (speed : Nat)
  /-- `Xfer(devh, wbytes, rcount, timeout)` -/
  | xfer (devh : DevHandle) (wbytes : List Byte) (rcount : Nat) (timeout : Timeout)
  /-- `Rsp` -/
  | rsp (r : Response)
deriving DecidableEq, Repr

/-- The state: the block's registers (R20), then the model's own fields. -/
structure State where
  /-- the parameters of R7; no step writes them (notes/assumptions/3.md) -/
  cfg : Config
  /-- `SCRATCH[0..5]` (R22) -/
  scratch : Memory
  /-- `DEVH` (R26) -/
  devh : DevHandle
  /-- `READY`: false is *Uninitialized*, true is *Ready* (R25) -/
  ready : Bool
  /-- `PHASE` (R23) -/
  phase : Phase
  /-- `OPR` (R24) -/
  opr : Opr
  /-- `TMO` (R24) -/
  tmo : Timeout
  /-- `STATUS` (R28) -/
  status : BitVec 3
  /-- `ERRDETAIL` (R29) -/
  errdetail : ErrCode
  /-- `CRCFAIL`: bit 0 word0, bit 1 word1 (R20) -/
  crcfail : BitVec 2
  /-- `RES_KIND` (R31) -/
  resKind : ResKind
  /-- `TEMP_Q16` (R31) -/
  tempQ16 : ResultWord
  /-- `RH_Q16` (R31) -/
  rhQ16 : ResultWord
  /-- `SERIAL` (R31) -/
  serial : Word32
  /-- the messages still to arrive, in order: the free input (notes/assumptions/1.md) -/
  inbox : List Input
  /-- the messages emitted so far, oldest first (R242, notes/assumptions/2.md) -/
  sent : List Output
  /-- where the next free value is drawn (notes/assumptions/24.md) -/
  draws : Nat
deriving DecidableEq, Repr

/-- Why the machine stops with a fault. -/
inductive Fault where
  /-- Raised by a read or write of `SCRATCH` at an offset outside `SCRATCH_LEN` (Ops.lean `readByte`, `writeByte`):
  "nothing outside offsets 0 to 5 exists" (R50). Safe: no block whose parameters conform makes such an access. -/
  | outsideScratch (offset : Nat)
deriving DecidableEq, Repr

/-- Why a step gives no meaning. -/
inductive Refusal where
  /-- Raised by an arm of `exec` whose instruction has no meaning yet; no arm raises it. Safe. -/
  | notModelled (mnemonic : String)
  /-- Raised by a host request while `PHASE` is not `IDLE` (Ops.lean `acceptRequest`): the port is not ready and
  "the request has no step" (R72; U1: refuse). Safe. -/
  | requestWhileBusy
  /-- Raised by an `AttachRsp` outside `ATTACH_WAIT` or an `XferRsp` outside `XFER_WAIT` (Answers.lean): it "cannot
  occur"; "a model gives such an event no step" (R178; U13: refuse). Safe for the runs it stops; that a real transport
  never sends one is its duty (R243). -/
  | unsolicitedAnswer
  /-- Raised by a wire command run on its own while an exchange is in flight (Command.lean): the transport owns
  `SCRATCH` (R71) and at most one request is outstanding (R40). Safe: no step runs a wire command there. -/
  | exchangeInFlight
  /-- Raised by a message whose opaque operand does not fit the port that carries it (Sequencer.lean; R38, R40, D12):
  a port of that width cannot deliver it. Safe. -/
  | illFormedMessage
deriving DecidableEq, Repr

/-- The state after reset of a block with given parameters (R42): the spec's values where it gives one, else the
values of notes/assumptions/6.md. -/
def State.resetWith (cfg : Config) : State :=
  { cfg := cfg
    scratch := []
    devh := ⟨0⟩
    ready := false
    phase := .idle
    opr := .init
    tmo := .infinite
    status := cfg.codes.number .ok
    errdetail := ⟨0⟩
    crcfail := 0
    resKind := .none
    tempQ16 := ⟨cfg.conv.resultWidth, 0⟩
    rhQ16 := ⟨cfg.conv.resultWidth, 0⟩
    serial := 0
    inbox := []
    sent := []
    draws := 0 }

/-- The state after reset of the block with the parameters of R7's table. -/
def State.reset : State := State.resetWith Config.default

end Sys2Proof.Machine
end

