-- ==== Sys2Proof/Machine/Ops.lean ====
section
/-! DEFINITION. The named operations over the scratch buffer and the registers (spec/20_memory.md,
spec/60_exceptions.md): canonical memory, the checked byte accesses, emitting a message, ending an operation with an
error or with success, accepting or refusing a request. -/

namespace Sys2Proof.Machine

/-! ### The scratch buffer as canonical data -/

/-- What an offset that no cell lists reads as (notes/assumptions/8.md). -/
def Memory.unlisted : Byte := 0#8

/-- The byte at an offset. -/
def Memory.read (m : Memory) (a : Nat) : Byte :=
  match m with
  | [] => Memory.unlisted
  | (k, v) :: rest => if k = a then v else Memory.read rest a

/-- Put a cell into a rising list of cells, in its place; a byte equal to what an unlisted offset reads as is not
listed. -/
def Memory.write (m : Memory) (a : Nat) (b : Byte) : Memory :=
  match m with
  | [] => if b = Memory.unlisted then [] else [(a, b)]
  | (k, v) :: rest =>
    if a < k then (if b = Memory.unlisted then (k, v) :: rest else (a, b) :: (k, v) :: rest)
    else if a = k then (if b = Memory.unlisted then rest else (a, b) :: rest)
    else (k, v) :: Memory.write rest a b

/-- Every cell lies at or above `lo` and below `len`, the offsets rise strictly, and no cell holds what an unlisted
offset reads as. -/
def Memory.wfFrom (lo len : Nat) (m : Memory) : Bool :=
  match m with
  | [] => true
  | (k, v) :: rest => decide (lo ≤ k) && decide (k < len) && decide (v ≠ Memory.unlisted) && Memory.wfFrom (k + 1) len rest

/-- The canonical form of a memory of `len` bytes (R50). -/
def Memory.wf (len : Nat) (m : Memory) : Bool := Memory.wfFrom 0 len m

/-- A memory whose first `len` bytes are free values, drawn from `draw` on (R42, R65). -/
def Memory.unspecified (len draw : Nat) : Memory :=
  match len with
  | 0 => []
  | k + 1 => Memory.write (Memory.unspecified k draw) k (Config.freeByte (draw + k))

/-! ### Named updates of one register, or of registers written together -/

/-- The bytes of `SCRATCH`. -/
def setScratch (m : Memory) (s : State) : State := { s with scratch := m }

/-- A message has left the inbox. -/
def dequeue (rest : List Input) (s : State) : State := { s with inbox := rest }

/-- `PHASE <- p` (R23). -/
def setPhase (p : Phase) (s : State) : State := { s with phase := p }

/-- `DEVH <- devh` (R26). -/
def setDevh (h : DevHandle) (s : State) : State := { s with devh := h }

/-- `READY <- 1` (R25). -/
def setReady (s : State) : State := { s with ready := true }

/-- `CRCFAIL <- v` (R126). -/
def setCrcfail (v : BitVec 2) (s : State) : State := { s with crcfail := v }

/-- `TEMP_Q16` and `RH_Q16` (R168). -/
def setMeasurement (temp rh : ResultWord) (s : State) : State := { s with tempQ16 := temp, rhQ16 := rh }

/-- `SERIAL` (R174). -/
def setSerial (v : Word32) (s : State) : State := { s with serial := v }

/-- `ERRDETAIL <- err` (R29). -/
def setErrDetail (e : ErrCode) (s : State) : State := { s with errdetail := e }

/-- `STATUS` takes the number of an outcome (R191). -/
def setStatus (k : StatusKind) (s : State) : State := { s with status := s.cfg.codes.number k }

/-! ### Checked accesses (R50, R54) -/

/-- The outcome of a computation that may fault. -/
def outcomeOf (r : Except Fault State) : Host.Outcome State Fault Refusal :=
  match r with
  | .ok s => .next s
  | .error f => .fault f

/-- `MemRead(addr, 1)` (R54). -/
def readByte (s : State) (a : Nat) : Except Fault Byte :=
  if a < s.cfg.wire.scratchLen then .ok (Memory.read s.scratch a) else .error (.outsideScratch a)

/-- `MemRead(addr, 2)`: the byte at the lower offset is the high byte (R54). -/
def readWord (s : State) (a : Nat) : Except Fault Word16 :=
  match readByte s a with
  | .error f => .error f
  | .ok hi =>
    match readByte s (a + 1) with
    | .error f => .error f
    | .ok lo => .ok (hi ++ lo)

/-- `MemWrite(addr, 1, v)` (R54). -/
def writeByte (s : State) (a : Nat) (b : Byte) : Except Fault State :=
  if a < s.cfg.wire.scratchLen then .ok (setScratch (Memory.write s.scratch a b) s)
  else .error (.outsideScratch a)

/-- The transport's store of consecutive bytes from an offset on (R62). -/
def writeBytes (s : State) (a : Nat) (bs : List Byte) : Except Fault State :=
  match bs with
  | [] => .ok s
  | b :: rest =>
    match writeByte s a b with
    | .error f => .error f
    | .ok s1 => writeBytes s1 (a + 1) rest

/-- `SCRATCH` after a failed transfer: unspecified bytes (R65). -/
def loseScratch (s : State) : State :=
  { s with
    scratch := Memory.unspecified s.cfg.wire.scratchLen s.draws
    draws := s.draws + s.cfg.wire.scratchLen }

/-! ### Outputs the host may sample (R41) -/

/-- `busy = (PHASE ≠ IDLE)` (R41). -/
def State.busy (s : State) : Bool := decide (s.phase ≠ .idle)

/-- A message is a host request (R38). -/
def Input.isRequest (m : Input) : Bool :=
  match m with
  | .rst => false
  | .req _ _ _ _ => true
  | .attachOk _ => false
  | .attachFailed _ => false
  | .xferOk _ => false
  | .xferFailed _ => false

/-- A run is over when `PHASE = IDLE` and the host offers no further request (R242); an `rst` edge or an answer may
still arrive. -/
def State.runOver (s : State) : Bool := decide (s.phase = .idle) && !s.inbox.any Input.isRequest

/-- `emit X`: the message joins those sent so far (R10). -/
def emit (x : Output) (s : State) : State := { s with sent := s.sent ++ [x] }

/-- The result registers `RES_KIND` names (R31). -/
def State.validTemp (s : State) : Option ResultWord := if s.resKind = .measurement then some s.tempQ16 else none

/-- The result registers `RES_KIND` names (R31). -/
def State.validRh (s : State) : Option ResultWord := if s.resKind = .measurement then some s.rhQ16 else none

/-- The result register `RES_KIND` names (R31). -/
def State.validSerial (s : State) : Option Word32 := if s.resKind = .serial then some s.serial else none

/-- `Rsp` with the registers as they stand, and `ERRDETAIL` only where its content is meant (R29, R39). -/
def responseOf (detail : Option ErrCode) (s : State) : Response :=
  { status := s.status
    errdetail := detail
    crcfail := s.crcfail
    resKind := s.resKind
    tempQ16 := s.validTemp
    rhQ16 := s.validRh
    serial := s.validSerial }

/-! ### Ending an operation: the block's exception entry and its return to the host -/

/-- What every end of an operation writes but for the outcome's own registers (R199, R200, R201). -/
def finish (k : StatusKind) (r : ResKind) (s : State) : State :=
  { s with status := s.cfg.codes.number k, resKind := r, phase := .idle }

/-- `raise E(info)` for the error kinds that carry the transport's code (R200: codes 1, 2, 3). -/
def raiseWith (k : StatusKind) (info : ErrCode) (s : State) : State :=
  let s1 := finish k .none (setErrDetail info s)
  emit (.rsp (responseOf (some info) s1)) s1

/-- `ERRDETAIL` left unspecified by an error that carries no code (R29, R200; notes/assumptions/10.md). -/
def loseErrDetail (s : State) : State :=
  { s with errdetail := ⟨cutToWidth s.cfg.xerrW (Config.freeToken s.draws)⟩, draws := s.draws + 1 }

/-- `raise ChecksumError()` (R194, R200). -/
def raiseChecksumError (s : State) : State :=
  let s1 := finish .checksumError .none (loseErrDetail s)
  emit (.rsp (responseOf none s1)) s1

/-- A successful finish (R201); the result registers have been written before. -/
def finishOk (r : ResKind) (s : State) : State :=
  let s1 := finish .ok r s
  emit (.rsp (responseOf none s1)) s1

/-! ### Accepting a request (R160) -/

/-- The result of the previous operation is cleared (R160). -/
def clearResult (s : State) : State := { s with resKind := .none, crcfail := 0 }

/-- `IllegalRequest` (R199): nothing but `STATUS`, `RES_KIND` and `CRCFAIL` changes, and `Rsp` is sent. -/
def refuseRequest (s : State) : State :=
  let s1 := setStatus .illegalRequest s
  emit (.rsp (responseOf none s1)) s1

/-- A request passes only when `PHASE = IDLE` (R38, R160): it clears the last result, and then starts its operation
if it is legal, else it is refused (R199). -/
def acceptRequest (legal : Bool) (start : State → Except Fault State) (s : State) :
    Host.Outcome State Fault Refusal :=
  match s.phase with
  | .idle =>
    if legal then outcomeOf (start (clearResult s)) else .next (refuseRequest (clearResult s))
  | .attachWait => .refused .requestWhileBusy
  | .xferWait => .refused .requestWhileBusy

/-- A request with the reserved `op` (R90): legal in no state. -/
def reservedRequest (s : State) : Host.Outcome State Fault Refusal :=
  acceptRequest false (fun t => .ok t) s

/-- Staging (R103): the opcode goes into `SCRATCH[0]`, the exchange is requested, the sequencer waits for it. -/
def stage (c : Command) (s : State) : Except Fault State :=
  match writeByte s 0 (Command.opcode s.cfg c) with
  | .error f => .error f
  | .ok s1 =>
    .ok (emit (.xfer s1.devh [Command.opcode s1.cfg c] s1.cfg.wire.respLen s1.tmo) (setPhase .xferWait s1))

/-- The operation in flight and its timeout are latched (R24). -/
def latch (o : Opr) (timeout : Timeout) (s : State) : State := { s with opr := o, tmo := timeout }

/-- The start of an operation that is one exchange (R166, R172). -/
def startExchange (o : Opr) (timeout : Timeout) (s : State) : Except Fault State :=
  stage o.command (latch o timeout s)

/-- The start of `initialize`: the attach request (R161). -/
def startAttach (bus : BusHandle) (speed : Nat) (timeout : Timeout) (s : State) : Except Fault State :=
  let s1 := latch .init timeout s
  .ok (emit (.attach bus s1.cfg.wire.deviceAddr speed) (setPhase .attachWait s1))

/-! ### Reset (R36, R42, R220) -/

/-- A clock edge with `rst` high: the fields R42 gives a value take it, the others are unspecified (free values);
nothing is sent for an operation that was in flight (R220). -/
def applyReset (s : State) : State :=
  { s with
    scratch := Memory.unspecified s.cfg.wire.scratchLen s.draws
    devh := ⟨cutToWidth s.cfg.devhW (Config.freeToken s.draws)⟩
    ready := false
    phase := .idle
    opr := Config.freeOpr s.draws
    tmo := Config.freeTimeout s.draws
    status := s.cfg.codes.number .ok
    errdetail := ⟨cutToWidth s.cfg.xerrW (Config.freeToken (s.draws + 1))⟩
    crcfail := 0
    resKind := .none
    tempQ16 := ⟨s.cfg.conv.resultWidth, Config.freeBits s.cfg.conv.resultWidth s.draws⟩
    rhQ16 := ⟨s.cfg.conv.resultWidth, Config.freeBits s.cfg.conv.resultWidth (s.draws + 1)⟩
    serial := Config.freeWord s.draws
    draws := s.draws + s.cfg.wire.scratchLen + 3 }

end Sys2Proof.Machine
end

