-- ==== Sys2Proof/Machine/Operands.lean ====
section
/-! DEFINITION. The word deserializer DES, the assembly of operands from response bytes, and the serializer of the
sensor's side (spec/41_word_deserializer.md, spec/30_encoding.md R85). -/

namespace Sys2Proof.Machine

/-- DES's outputs (R110): two words and their check bytes. -/
structure Words where
  word0 : Word16
  chk0 : Byte
  word1 : Word16
  chk1 : Byte
deriving DecidableEq, Repr

/-- DES (R111, R112): `word0 = MemRead(0, 2)`, `crc0 = SCRATCH[2]`, `word1 = MemRead(3, 2)`, `crc1 = SCRATCH[5]`. -/
def deserialize (s : State) : Except Fault Words :=
  match readWord s 0 with
  | .error f => .error f
  | .ok w0 =>
    match readByte s 2 with
    | .error f => .error f
    | .ok c0 =>
      match readWord s 3 with
      | .error f => .error f
      | .ok w1 =>
        match readByte s 5 with
        | .error f => .error f
        | .ok c1 => .ok { word0 := w0, chk0 := c0, word1 := w1, chk1 := c1 }

/-- DES as a function of the six bytes of a response (R111, R112, R179). -/
def wordsOf (r : Rsp48) : Words :=
  { word0 := r.b0 ++ r.b1, chk0 := r.b2, word1 := r.b3 ++ r.b4, chk1 := r.b5 }

/-- The high byte of a word, the one that arrives first (R53). -/
def highByte (w : Word16) : Byte := w.extractLsb' 8 8

/-- The low byte of a word (R53). -/
def lowByte (w : Word16) : Byte := w.extractLsb' 0 8

/-- `serial = (zext_32(word0) << 16) | zext_32(word1)` (R114). -/
def assembleSerial (word0 word1 : Word16) : Word32 :=
  (word0.setWidth 32 <<< 16) ||| word1.setWidth 32

/-- Which of the two words is the temperature (R136). -/
def tempTicks (o : WordOrder) (w : Words) : Word16 :=
  match o with
  | .temperatureFirst => w.word0
  | .humidityFirst => w.word1

/-- Which of the two words is the humidity (R136). -/
def humTicks (o : WordOrder) (w : Words) : Word16 :=
  match o with
  | .temperatureFirst => w.word1
  | .humidityFirst => w.word0

/-- The six bytes a sensor sends for two words (R115). -/
def serialize (f : CrcFunction) (w0 w1 : Word16) : Rsp48 :=
  { b0 := highByte w0, b1 := lowByte w0, b2 := crc8 f (highByte w0) (lowByte w0),
    b3 := highByte w1, b4 := lowByte w1, b5 := crc8 f (highByte w1) (lowByte w1) }

end Sys2Proof.Machine
end

