-- ==== Sys2Proof/Machine/Flags.lean ====
section
/-! DEFINITION. The block's flags (spec/10_state.md R27): the check of each word, the verdict on a response and
`CRCFAIL` (spec/42_crc8_validator.md R125 to R127). -/

namespace Sys2Proof.Machine

/-- The per-word check (R125): all 8 bits compared, over the word's own two bytes. -/
def wordOk (f : CrcFunction) (w : Word16) (chk : Byte) : Bool :=
  decide (crc8 f (highByte w) (lowByte w) = chk)

/-- The verdict on a response (R126): both words are always checked (R127). -/
def Words.pass (f : CrcFunction) (w : Words) : Bool :=
  wordOk f w.word0 w.chk0 && wordOk f w.word1 w.chk1

/-- `CRCFAIL = (not ok1) ++ (not ok0)` (R126, R179). -/
def Words.crcfail (f : CrcFunction) (w : Words) : BitVec 2 :=
  BitVec.ofBool (!wordOk f w.word1 w.chk1) ++ BitVec.ofBool (!wordOk f w.word0 w.chk0)

end Sys2Proof.Machine
end

