-- ==== Sys2Proof/Machine/Answers.lean ====
section
/-! DEFINITION. The steps the transport's answers enable (spec/44_operations.md R162 to R168, R173, R174, R179). An
answer that nothing waits for has no step (R178). -/

namespace Sys2Proof.Machine

/-- `AttachRsp(ok = 1, devh)` (R162): the handle is kept and the identity exchange starts. -/
def onAttachOk (h : DevHandle) (s : State) : Host.Outcome State Fault Refusal :=
  match s.phase with
  | .attachWait => outcomeOf (stage .readSerialNumber (setDevh h s))
  | .idle => .refused .unsolicitedAnswer
  | .xferWait => .refused .unsolicitedAnswer

/-- `AttachRsp(ok = 0, err)` (R165, R192). -/
def onAttachFailed (err : ErrCode) (s : State) : Host.Outcome State Fault Refusal :=
  match s.phase with
  | .attachWait => .next (raiseWith .busAttachError err s)
  | .idle => .refused .unsolicitedAnswer
  | .xferWait => .refused .unsolicitedAnswer

/-- The error kind a failed transfer is, by the operation in flight (R163, R167, R173). -/
def transferError (o : Opr) : StatusKind :=
  match o with
  | .init => .deviceNotResponding
  | .meas => .transportError
  | .rdsn => .transportError

/-- `XferRsp(ok = 0, err)` (R163, R167, R173): no datapath unit runs (R196); `SCRATCH` is lost (R65). -/
def onXferFailed (err : ErrCode) (s : State) : Host.Outcome State Fault Refusal :=
  match s.phase with
  | .xferWait => .next (raiseWith (transferError s.opr) err (loseScratch s))
  | .idle => .refused .unsolicitedAnswer
  | .attachWait => .refused .unsolicitedAnswer

/-- The end of `initialize` (R164): the words are dropped. -/
def finishInit (pass : Bool) (s : State) : State :=
  if s.cfg.initCrcFatal && !pass then raiseChecksumError s else finishOk .none (setReady s)

/-- The end of `readMeasurement` (R168): conversion only of validated words (R116). -/
def finishMeasurement (w : Words) (s : State) : State :=
  if w.pass s.cfg.crc then
    finishOk .measurement
      (setMeasurement (convertTemp s.cfg.conv (tempTicks s.cfg.conv.wordOrder w))
        (convertRh s.cfg.conv (humTicks s.cfg.conv.wordOrder w)) s)
  else raiseChecksumError s

/-- The end of `readSerialNumber` (R174). -/
def finishSerial (w : Words) (s : State) : State :=
  if w.pass s.cfg.crc then finishOk .serial (setSerial (assembleSerial w.word0 w.word1) s)
  else raiseChecksumError s

/-- What follows the common part of a successful transfer, by the operation in flight (R179). -/
def finishExchange (w : Words) (s : State) : State :=
  match s.opr with
  | .init => finishInit (w.pass s.cfg.crc) s
  | .meas => finishMeasurement w s
  | .rdsn => finishSerial w s

/-- The common part of a successful transfer (R179): the six bytes land in `SCRATCH` (R62), DES reads them, CRC
checks both words, and the operation in flight is finished. -/
def takeResponse (r : Rsp48) (s : State) : Except Fault State :=
  match writeBytes s 0 r.bytes with
  | .error f => .error f
  | .ok s1 =>
    match deserialize s1 with
    | .error f => .error f
    | .ok w => .ok (finishExchange w (setCrcfail (w.crcfail s1.cfg.crc) s1))

/-- `XferRsp(ok = 1, rbytes)` (R164, R168, R174). -/
def onXferOk (r : Rsp48) (s : State) : Host.Outcome State Fault Refusal :=
  match s.phase with
  | .xferWait => outcomeOf (takeResponse r s)
  | .idle => .refused .unsolicitedAnswer
  | .attachWait => .refused .unsolicitedAnswer

end Sys2Proof.Machine
end

