-- ==== Sys2Proof/Machine/Command.lean ====
section
/-! DEFINITION. The wire commands (spec/40_command_encoder.md R105, R106): staging one command and requesting its
exchange (R103), with the operation and the timeout already latched. The transport owns the scratch buffer while an
exchange is in flight (R71), and the block never has two requests outstanding (R40). -/

namespace Sys2Proof.Machine

/-- `MEAS_HP` (R105). -/
def execMeasHp (s : State) : Host.Outcome State Fault Refusal :=
  match s.phase with
  | .idle => outcomeOf (stage .measureHighPrecision s)
  | .attachWait => outcomeOf (stage .measureHighPrecision s)
  | .xferWait => .refused .exchangeInFlight

/-- `READ_SN` (R106). -/
def execReadSn (s : State) : Host.Outcome State Fault Refusal :=
  match s.phase with
  | .idle => outcomeOf (stage .readSerialNumber s)
  | .attachWait => outcomeOf (stage .readSerialNumber s)
  | .xferWait => .refused .exchangeInFlight

end Sys2Proof.Machine
end

