-- ==== Sys2Proof/Machine/HostOps.lean ====
section
/-! DEFINITION. The three host operations as the request step runs them (spec/44_operations.md R160, R161, R166,
R172); their later steps are the transport's answers (Answers.lean). -/

namespace Sys2Proof.Machine

/-- `initialize`: legal in *Uninitialized* only (R160, R161). -/
def execInitializeDevice (bus : BusHandle) (speed : Nat) (timeout : Timeout) (s : State) :
    Host.Outcome State Fault Refusal :=
  acceptRequest (!s.ready) (startAttach bus speed timeout) s

/-- `readMeasurement`: legal in *Ready* only (R160, R166). -/
def execReadMeasurement (timeout : Timeout) (s : State) : Host.Outcome State Fault Refusal :=
  acceptRequest s.ready (startExchange .meas timeout) s

/-- `readSerialNumber`: legal in *Ready* only (R160, R172). -/
def execReadSerialNumber (timeout : Timeout) (s : State) : Host.Outcome State Fault Refusal :=
  acceptRequest s.ready (startExchange .rdsn timeout) s

end Sys2Proof.Machine
end

