-- ==== Sys2Proof/Machine/Dispatch.lean ====
section
/-! DEFINITION. One arm per constructor of Instr: the meaning each instruction has. -/

namespace Sys2Proof.Machine

def exec (i : Instr) (s : State) : Host.Outcome State Fault Refusal :=
  match i with
  | .measHp => Sys2Proof.Machine.execMeasHp s
  | .readSn => Sys2Proof.Machine.execReadSn s
  | .initializeDevice bus speed timeout => Sys2Proof.Machine.execInitializeDevice bus speed timeout s
  | .readMeasurement timeout => Sys2Proof.Machine.execReadMeasurement timeout s
  | .readSerialNumber timeout => Sys2Proof.Machine.execReadSerialNumber timeout s

end Sys2Proof.Machine
end

