-- ==== Sys2Proof/Machine/Sequencer.lean ====
section
/-! DEFINITION. The sequencer: which message enables the next step, and what the step is (spec/00_scope.md R12,
spec/44_operations.md R178). -/

namespace Sys2Proof.Machine

/-- The opaque operands of a message fit the port that carries it (R38, R40, D12). -/
def Input.wf (cfg : Config) (m : Input) : Bool :=
  match m with
  | .rst => true
  | .req _ bus _ _ => fitsWidth cfg.bushW bus.token
  | .attachOk h => fitsWidth cfg.devhW h.token
  | .attachFailed e => fitsWidth cfg.xerrW e.token
  | .xferOk _ => true
  | .xferFailed e => fitsWidth cfg.xerrW e.token

/-- `Req` (R160): the instruction the request carries runs; a request with the reserved `op` is answered as R90
says. -/
def onRequest (op : BitVec 2) (bus : BusHandle) (speed : Nat) (timeout : Timeout) (s : State) :
    Host.Outcome State Fault Refusal :=
  match decode s.cfg (.hreq op bus speed timeout) with
  | .ok i => exec i s
  | .error _ => reservedRequest s

/-- The step a message enables; the message has left the inbox. -/
def takeInput (m : Input) (s : State) : Host.Outcome State Fault Refusal :=
  if m.wf s.cfg then
    match m with
    | .rst => .next (applyReset s)
    | .req op bus speed timeout => onRequest op bus speed timeout s
    | .attachOk h => onAttachOk h s
    | .attachFailed e => onAttachFailed e s
    | .xferOk r => onXferOk r s
    | .xferFailed e => onXferFailed e s
  else .refused .illFormedMessage

/-- The next step: the first message of the inbox passes; without one the block does nothing (R12, R238). -/
def advance (s : State) : Host.Outcome State Fault Refusal :=
  match s.inbox with
  | [] => .next s
  | m :: rest => takeInput m (dequeue rest s)

/-- The state in which the very next step runs the instruction of a frame (notes/assumptions/17.md). A request is
offered to an idle block. A wire command has no port of its own: it is run by the read operation that sends it,
requested of an idle, *Ready* block whose registers already hold what the acceptance of that request writes. -/
def placeFrame (f : Frame) (s : State) : State :=
  match f with
  | .hreq op bus speed timeout => { s with phase := .idle, inbox := [.req op bus speed timeout] }
  | .cmd8 b =>
    match Command.ofOpcode s.cfg b with
    | some .measureHighPrecision =>
      { clearResult s with
        ready := true, phase := .idle, opr := .meas,
        inbox := [.req s.cfg.opSel.opMeas ⟨0⟩ 0 s.tmo] }
    | some .readSerialNumber =>
      { clearResult s with
        ready := true, phase := .idle, opr := .rdsn,
        inbox := [.req s.cfg.opSel.opRdsn ⟨0⟩ 0 s.tmo] }
    | none => s

end Sys2Proof.Machine
end

