-- ==== Sys2Proof/Machine/Step.lean ====
section
/-! DEFINITION. One step of the machine, and the state whose next step runs a given instruction. -/

namespace Sys2Proof.Machine

/-- One step of the transition system (R12). -/
def step (s : State) : Host.Outcome State Fault Refusal := advance s

/-- The state `s` with the instruction of these table bits placed where the next step takes it from; bits that no
frame has leave `s` as it is. -/
def State.withFetchWord (s : State) (nbits w : Nat) : State :=
  match Frame.ofTableWord nbits w with
  | some f => placeFrame f s
  | none => s

end Sys2Proof.Machine
end

