-- ==== Sys2Proof/Safety.lean ====
section
/-! DEFINITION. The terms claims about the block are made in: the invariant of its runs, what the block has sent,
and the error patterns of a checked group. -/

namespace Sys2Proof.Machine

/-- What holds of the block's registers in every state a run from reset reaches (R20 to R42, R191, R196). -/
structure Inv (s : State) : Prop where
  /-- the parameters are those of a block of this spec (R7) -/
  conforms : s.cfg.conforms = true
  /-- `SCRATCH` lies within its offsets, in canonical form (R50) -/
  scratch : Memory.wf s.cfg.wire.scratchLen s.scratch = true
  /-- the result registers have the block's `RESULT_WIDTH` (R7) -/
  width : s.tempQ16.width = s.cfg.conv.resultWidth ∧ s.rhQ16.width = s.cfg.conv.resultWidth
  /-- `STATUS` is 0 to 5 (R28) -/
  status : s.status.toNat ≤ 5
  /-- an attach is outstanding only for `initialize`, in *Uninitialized* (R23, R160) -/
  attaching : s.phase = .attachWait → s.opr = .init ∧ s.ready = false
  /-- a transfer is outstanding for `initialize` exactly in *Uninitialized* (R160) -/
  exchanging : s.phase = .xferWait → (s.opr = .init ↔ s.ready = false)
  /-- `CRCFAIL` stays 0 while an operation is in flight (R160, R196) -/
  crcfail : s.phase ≠ .idle → s.crcfail = 0
  /-- a valid result stands only after a successful read whose words both passed (R31, R126, R200, R201) -/
  result : s.resKind ≠ .none → s.phase = .idle ∧ s.ready = true ∧ s.status = 0 ∧ s.crcfail = 0

/-- How many `Attach` messages have been sent (R182). -/
def attachCount (out : List Output) : Nat :=
  match out with
  | [] => 0
  | .attach _ _ _ :: rest => attachCount rest + 1
  | .xfer _ _ _ _ :: rest => attachCount rest
  | .rsp _ :: rest => attachCount rest

/-- How many `Xfer` messages have been sent (R182). -/
def xferCount (out : List Output) : Nat :=
  match out with
  | [] => 0
  | .attach _ _ _ :: rest => xferCount rest
  | .xfer _ _ _ _ :: rest => xferCount rest + 1
  | .rsp _ :: rest => xferCount rest

/-- How many `Rsp` messages have been sent (R180). -/
def rspCount (out : List Output) : Nat :=
  match out with
  | [] => 0
  | .attach _ _ _ :: rest => rspCount rest
  | .xfer _ _ _ _ :: rest => rspCount rest
  | .rsp _ :: rest => rspCount rest + 1

/-- A step is safe when it does not fault. -/
def safeStep (s : State) : Prop := ∀ f, step s ≠ .fault f

/-- A 24-bit group `hi ++ lo ++ chk` passes its check under the default CRC (R130). -/
def groupPasses (g : BitVec 24) : Bool :=
  decide (crc8 (.bitSerial {}) (g.extractLsb' 16 8) (g.extractLsb' 8 8) = g.extractLsb' 0 8)

/-- How many of the lowest `n` bits of an error pattern are flipped (R130). -/
def flippedBits (n : Nat) (e : BitVec 24) : Nat :=
  match n with
  | 0 => 0
  | k + 1 => (if e.getLsbD k then 1 else 0) + flippedBits k e

end Sys2Proof.Machine
end

