-- ==== Sys2Proof/Certificates/Slice0/Obligations.lean ====
section
/-! DEFINITION. The statements about the model. Each docstring names the rule of spec/ its statement formalises. -/

open Sys2Proof Sys2Proof.Machine

/-! ### Encodings -/

/-- R101: the two opcodes; the function is injective and there is no third command. -/
def Obligations.WireOpcodesOfTheCommands : Prop :=
  ∀ cfg : Config, cfg.conforms = true →
    Command.opcode cfg .measureHighPrecision = 0xFD#8 ∧ Command.opcode cfg .readSerialNumber = 0x89#8 ∧
    (∀ c d : Command, Command.opcode cfg c = Command.opcode cfg d → c = d) ∧
    (∀ c : Command, c = .measureHighPrecision ∨ c = .readSerialNumber)

/-- R102: the command each host operation sends. -/
def Obligations.OperationsSendTheirCommand : Prop :=
  Opr.command .init = .readSerialNumber ∧ Opr.command .meas = .measureHighPrecision ∧
  Opr.command .rdsn = .readSerialNumber

/-- R88 (marked by the spec as derived): `0xFD` and `0x89` are decoded to the commands they encode, and every other
byte to no command. -/
def Obligations.CommandBytesDecodeToTheirCommandOnly : Prop :=
  ∀ (cfg : Config) (b : Byte), cfg.conforms = true →
    (∀ c : Command, Command.ofOpcode cfg b = some c ↔ b = Command.opcode cfg c) ∧
    (b ≠ 0xFD#8 → b ≠ 0x89#8 →
      Command.ofOpcode cfg b = none ∧ decode cfg (.cmd8 b) = .error (.notACommand b))

/-- The rows of spec/opcode_table.json (R82, R86), written out as words; `op = 3` (R90) and a byte that is no
command carry no instruction. That the operands a table word does not give are zero, and the timeout finite, is the
model's choice (notes/assumptions/17.md). -/
def Obligations.TableWordsDecodeToTheirRows : Prop :=
  decodeTableWord 8 0b11111101 = some .measHp ∧
  decodeTableWord 8 0b10001001 = some .readSn ∧
  decodeTableWord 2 0b00 = some (.initializeDevice ⟨0⟩ 0 (.finite 0)) ∧
  decodeTableWord 2 0b01 = some (.readMeasurement (.finite 0)) ∧
  decodeTableWord 2 0b10 = some (.readSerialNumber (.finite 0)) ∧
  decodeTableWord 2 0b11 = none ∧
  decodeTableWord 8 0x94 = none

/-- R86 (the spec's decision D14): the operation each value of `op` selects, its operands passed on undecoded; `op =
3` is reserved. -/
def Obligations.HostRequestsDecodeByTheirOpField : Prop :=
  ∀ (cfg : Config) (bus : BusHandle) (speed : Nat) (timeout : Timeout), cfg.conforms = true →
    decode cfg (.hreq 0 bus speed timeout) = .ok (.initializeDevice bus speed timeout) ∧
    decode cfg (.hreq 1 bus speed timeout) = .ok (.readMeasurement timeout) ∧
    decode cfg (.hreq 2 bus speed timeout) = .ok (.readSerialNumber timeout) ∧
    decode cfg (.hreq 3 bus speed timeout) = .error (.reservedOp 3)

/-- Decode after encode, for every instruction and every operand (R82, R86, R88). What the encoder sends in the
fields that an operation does not read is the model's choice (notes/assumptions/18.md); decoding does not look at
it. -/
def Obligations.DecodeOfEncodeGivesTheInstruction : Prop :=
  ∀ (cfg : Config) (i : Instr), cfg.conforms = true → i.wf cfg = true → decode cfg (encode cfg i) = .ok i

/-- Encode after decode gives back the frame's table bits: no two words mean one instruction (R82, R86). -/
def Obligations.EncodeOfDecodeGivesTheSameBits : Prop :=
  ∀ (cfg : Config) (f : Frame) (i : Instr), decode cfg f = .ok i → (encode cfg i).tableWord = f.tableWord

/-- R83: where each byte of a response stands in the 48-bit string, and that the string loses nothing. -/
def Obligations.ResponseBytesStandInWireOrder : Prop :=
  (∀ v : BitVec 48, (Rsp48.ofBits v).toBits = v) ∧
  ∀ r : Rsp48,
    r.toBits.extractLsb' 40 8 = r.b0 ∧ r.toBits.extractLsb' 32 8 = r.b1 ∧ r.toBits.extractLsb' 24 8 = r.b2 ∧
    r.toBits.extractLsb' 16 8 = r.b3 ∧ r.toBits.extractLsb' 8 8 = r.b4 ∧ r.toBits.extractLsb' 0 8 = r.b5

/-! ### The word deserializer -/

/-- R111: `word0 = SCRATCH[0] ++ SCRATCH[1]`, `word1 = SCRATCH[3] ++ SCRATCH[4]`, and the words are the two-byte
reads at 0 and 3; with them the check bytes `SCRATCH[2]` and `SCRATCH[5]` (R112). -/
def Obligations.DeserializerAssemblesBigEndianWords : Prop :=
  ∀ s : State, s.cfg.conforms = true → ∃ w : Words,
    deserialize s = .ok w ∧
    w.word0 = Memory.read s.scratch 0 ++ Memory.read s.scratch 1 ∧
    w.word1 = Memory.read s.scratch 3 ++ Memory.read s.scratch 4 ∧
    readWord s 0 = .ok w.word0 ∧ readWord s 3 = .ok w.word1 ∧
    w.chk0 = Memory.read s.scratch 2 ∧ w.chk1 = Memory.read s.scratch 5

/-- R114: the serial number's halves and bytes, high word first; the document's example. -/
def Obligations.SerialNumberIsHighWordFirst : Prop :=
  (∀ w0 w1 : Word16,
    (assembleSerial w0 w1).extractLsb' 16 16 = w0 ∧ (assembleSerial w0 w1).extractLsb' 0 16 = w1 ∧
    assembleSerial w0 w1 = highByte w0 ++ lowByte w0 ++ highByte w1 ++ lowByte w1) ∧
  assembleSerial 0x1234#16 0x5678#16 = 0x12345678#32

/-- R115 (marked by the spec as derived): the six bytes of a serialized response; it comes back as its two words,
with check bytes that pass, under any CRC. -/
def Obligations.SerializedResponseComesBackAndPasses : Prop :=
  ∀ (f : CrcFunction) (w0 w1 : Word16),
    (serialize f w0 w1).bytes =
      [w0.extractLsb' 8 8, w0.extractLsb' 0 8, crc8 f (w0.extractLsb' 8 8) (w0.extractLsb' 0 8),
       w1.extractLsb' 8 8, w1.extractLsb' 0 8, crc8 f (w1.extractLsb' 8 8) (w1.extractLsb' 0 8)] ∧
    (wordsOf (serialize f w0 w1)).word0 = w0 ∧ (wordsOf (serialize f w0 w1)).word1 = w1 ∧
    (wordsOf (serialize f w0 w1)).pass f = true ∧ (wordsOf (serialize f w0 w1)).crcfail f = 0

/-! ### The CRC unit -/

/-- R124 (marked by the spec as derived): the default CRC is affine in its input, and the CRC with seed 0 is linear.
The default polynomial, bit order and final XOR are the spec's from general knowledge (D2). -/
def Obligations.CrcIsAffineInItsInput : Prop :=
  ∀ a b e f : Byte,
    crc8 (.bitSerial {}) 0 0 = 0x81#8 ∧
    crc8 (.bitSerial {}) a b = crc8 (.bitSerial { init := 0 }) a b ^^^ 0x81#8 ∧
    crc8 (.bitSerial { init := 0 }) (a ^^^ e) (b ^^^ f) =
      crc8 (.bitSerial { init := 0 }) a b ^^^ crc8 (.bitSerial { init := 0 }) e f ∧
    crc8 (.bitSerial {}) (a ^^^ e) (b ^^^ f) = crc8 (.bitSerial {}) a b ^^^ crc8 (.bitSerial { init := 0 }) e f

/-- R128 (marked by the spec as derived): exactly one check byte passes for each word, namely its CRC, and under the
default parameters the loop of R122 over the three bytes ends in zero exactly then. -/
def Obligations.ExactlyOneCheckBytePasses : Prop :=
  (∀ (f : CrcFunction) (hi lo : Byte), 
    wordOk f (hi ++ lo) (crc8 f hi lo) = true ∧ ∃! chk : Byte, wordOk f (hi ++ lo) chk = true) ∧
  ∀ hi lo chk : Byte,
    (wordOk (.bitSerial {}) (hi ++ lo) chk = true ↔ crcRun 0x31#8 0xFF#8 [hi, lo, chk] = 0#8)

/-- R130 (marked by the spec as derived): under the default CRC every pattern of one, two or three flipped bits of a
group is detected. -/
def Obligations.UpToThreeFlippedBitsAreDetected : Prop :=
  ∀ g e : BitVec 24, groupPasses g = true → 1 ≤ flippedBits 24 e → flippedBits 24 e ≤ 3 →
    groupPasses (g ^^^ e) = false

/-- R130 (marked by the spec as derived): under the default CRC every pattern of an odd number of flipped bits is
detected. -/
def Obligations.OddNumbersOfFlippedBitsAreDetected : Prop :=
  ∀ g e : BitVec 24, groupPasses g = true → flippedBits 24 e % 2 = 1 → groupPasses (g ^^^ e) = false

/-- R130 (marked by the spec as derived): under the default CRC every burst confined to eight consecutive bits is
detected. -/
def Obligations.BurstsOfEightBitsAreDetected : Prop :=
  ∀ (g : BitVec 24) (p : Byte) (k : Nat), groupPasses g = true → p ≠ 0#8 → k ≤ 16 →
    groupPasses (g ^^^ (p.setWidth 24 <<< k)) = false

/-! ### The converter -/

/-- R137: the range of the exact values, which are strictly increasing in their argument. -/
def Obligations.ExactValuesHaveTheirRangeAndIncrease : Prop :=
  ∀ cfg : Config, cfg.conforms = true → ∀ t u : Word16,
    exactTemp cfg.conv t = -45 + 175 * (t.toNat : ℚ) / 65535 ∧ exactRh cfg.conv t = -6 + 125 * (t.toNat : ℚ) / 65535 ∧
    -45 ≤ exactTemp cfg.conv t ∧ exactTemp cfg.conv t ≤ 130 ∧ -6 ≤ exactRh cfg.conv t ∧ exactRh cfg.conv t ≤ 119 ∧
    (t.toNat < u.toNat → exactTemp cfg.conv t < exactTemp cfg.conv u ∧ exactRh cfg.conv t < exactRh cfg.conv u)

/-- R139 (the spec's decisions D6, D7): the unclamped results, and that they are the floor of the exact value times
65536. -/
def Obligations.UnclampedResultsAreFlooredExactValues : Prop :=
  ∀ cfg : Config, cfg.conforms = true → ∀ t : Word16,
    tempRaw cfg.conv t = -2949120 + 11468800 * (t.toNat : Int) / 65535 ∧
    rhRaw cfg.conv t = -393216 + 8192000 * (t.toNat : Int) / 65535 ∧
    tempRaw cfg.conv t = ⌊65536 * exactTemp cfg.conv t⌋ ∧ rhRaw cfg.conv t = ⌊65536 * exactRh cfg.conv t⌋

/-- R140: the two clamps, in a block without the optional ones, read off the result registers as signed numbers. -/
def Obligations.ResultRegistersHoldTheClampedValues : Prop :=
  ∀ cfg : Config, cfg.conforms = true → cfg.conv.tMin = none → cfg.conv.rhMax = none → ∀ t : Word16,
    (convertTemp cfg.conv t).toInt = min (tempRaw cfg.conv t) 6553600 ∧
    (convertRh cfg.conv t).toInt = max (rhRaw cfg.conv t) 0

/-- R141 (the spec's decision D9): the two optional clamps, when set within their requirement. -/
def Obligations.OptionalClampsApplyWhenSet : Prop :=
  ∀ (cfg : Config) (m : Int), cfg.conforms = true → ∀ t : Word16,
    (cfg.conv.tMin = some m →
      (convertTemp cfg.conv t).toInt = max (min (tempRaw cfg.conv t) 6553600) (m * 65536)) ∧
    (cfg.conv.rhMax = some m →
      (convertRh cfg.conv t).toInt = min (max (rhRaw cfg.conv t) 0) (m * 65536))

/-- R143 (marked by the spec as derived): the products and the quotients the two conversions form fit 40 and 39, 24
and 23 unsigned bits, the unclamped results lie in their ranges, and narrowing to a register loses nothing. -/
def Obligations.ConversionNeverOverflows : Prop :=
  ∀ cfg : Config, cfg.conforms = true → ∀ t : Word16,
    0 ≤ tempProduct cfg.conv t ∧ tempProduct cfg.conv t < 2 ^ 40 ∧
    0 ≤ rhProduct cfg.conv t ∧ rhProduct cfg.conv t < 2 ^ 39 ∧
    0 ≤ quantise cfg.conv.rounding (tempProduct cfg.conv t) cfg.conv.tickDiv ∧
    quantise cfg.conv.rounding (tempProduct cfg.conv t) cfg.conv.tickDiv < 2 ^ 24 ∧
    0 ≤ quantise cfg.conv.rounding (rhProduct cfg.conv t) cfg.conv.tickDiv ∧
    quantise cfg.conv.rounding (rhProduct cfg.conv t) cfg.conv.tickDiv < 2 ^ 23 ∧
    -2949120 ≤ tempRaw cfg.conv t ∧ tempRaw cfg.conv t ≤ 8519680 ∧
    -393216 ≤ rhRaw cfg.conv t ∧ rhRaw cfg.conv t ≤ 7798784 ∧
    (convertTemp cfg.conv t).toInt = tempClamped cfg.conv t ∧ (convertRh cfg.conv t).toInt = rhClamped cfg.conv t

/-- R144 (marked by the spec as derived): the result never exceeds the exact value, is short of it by less than one
unit, and is exact where 65535 divides the product. -/
def Obligations.QuantisationErrorIsBelowOneUnit : Prop :=
  ∀ cfg : Config, cfg.conforms = true → ∀ t : Word16,
    0 ≤ exactTemp cfg.conv t - (tempRaw cfg.conv t : ℚ) / 65536 ∧
    exactTemp cfg.conv t - (tempRaw cfg.conv t : ℚ) / 65536 < 1 / 65536 ∧
    0 ≤ exactRh cfg.conv t - (rhRaw cfg.conv t : ℚ) / 65536 ∧
    exactRh cfg.conv t - (rhRaw cfg.conv t : ℚ) / 65536 < 1 / 65536 ∧
    (65535 ∣ 11468800 * t.toNat → exactTemp cfg.conv t = (tempRaw cfg.conv t : ℚ) / 65536) ∧
    (65535 ∣ 8192000 * t.toNat → exactRh cfg.conv t = (rhRaw cfg.conv t : ℚ) / 65536)

/-- R145 (marked by the spec as derived): what the converter gives, which quantises and then clamps, is the
quantised value of the exact value clamped first, in a block without the optional clamps. -/
def Obligations.ClampAndQuantisationCommute : Prop :=
  ∀ cfg : Config, cfg.conforms = true → ∀ t : Word16,
    (cfg.conv.tMin = none → (convertTemp cfg.conv t).toInt = ⌊65536 * min (exactTemp cfg.conv t) 100⌋) ∧
    (cfg.conv.rhMax = none → (convertRh cfg.conv t).toInt = ⌊65536 * max (exactRh cfg.conv t) 0⌋)

/-- R146 (marked by the spec as derived): the unclamped results increase by at least 125 a tick, and the thresholds
at which the clamps act. -/
def Obligations.ClampThresholdsAndMonotonicity : Prop :=
  ∀ cfg : Config, cfg.conforms = true → ∀ t u : Word16,
    (t.toNat < u.toNat →
      tempRaw cfg.conv t + 125 ≤ tempRaw cfg.conv u ∧ rhRaw cfg.conv t + 125 ≤ rhRaw cfg.conv u) ∧
    (6553600 < tempRaw cfg.conv t ↔ 54301 ≤ t.toNat) ∧
    (rhRaw cfg.conv t < 0 ↔ t.toNat ≤ 3145) ∧
    (t.toNat = 54300 → tempRaw cfg.conv t = 6553524) ∧ (t.toNat = 54301 → tempRaw cfg.conv t = 6553700) ∧
    (t.toNat = 3145 → rhRaw cfg.conv t = -86) ∧ (t.toNat = 3146 → rhRaw cfg.conv t = 40) ∧
    (cfg.conv.tMin = none →
      -2949120 ≤ (convertTemp cfg.conv t).toInt ∧ (convertTemp cfg.conv t).toInt ≤ 6553600) ∧
    (cfg.conv.rhMax = none →
      0 ≤ (convertRh cfg.conv t).toInt ∧ (convertRh cfg.conv t).toInt ≤ 7798784)

/-! ### Instructions: where they complete, and what they leave -/

/-- R161: `initialize` in an idle, *Uninitialized* block sends its attach request, with the default speed and the
encoding the rule names. Nothing else changes but the two registers that keep the last result, of which
AcceptedRequestsClearTheLastResult speaks. -/
def Obligations.InitializeStartsWithAnAttach : Prop :=
  ∀ (s : State) (bus : BusHandle) (speed : Nat) (timeout : Timeout),
    s.cfg.conforms = true → s.phase = .idle → s.ready = false →
    decode s.cfg (.hreq 0 bus speed timeout) = .ok (.initializeDevice bus speed timeout) ∧
    s.cfg.wire.busSpeedDefault = 100000 ∧
    ∃ t, exec (.initializeDevice bus speed timeout) s = .next t ∧
      t = { s with
        resKind := t.resKind
        crcfail := t.crcfail
        opr := .init
        tmo := timeout
        phase := .attachWait
        sent := s.sent ++ [.attach bus 0x44#7 speed] }

/-- R166: `readMeasurement` in an idle, *Ready* block stages `0xFD` and requests the exchange, with the encodings
the rule names. Nothing else changes but the two registers that keep the last result, of which
AcceptedRequestsClearTheLastResult speaks. -/
def Obligations.ReadMeasurementStartsItsExchange : Prop :=
  ∀ (s : State) (bus : BusHandle) (speed : Nat) (timeout : Timeout),
    s.cfg.conforms = true → s.phase = .idle → s.ready = true →
    decode s.cfg (.hreq 1 bus speed timeout) = .ok (.readMeasurement timeout) ∧
    encode s.cfg .measHp = .cmd8 0xFD#8 ∧
    ∃ t, exec (.readMeasurement timeout) s = .next t ∧ Memory.read t.scratch 0 = 0xFD#8 ∧
      t = { s with
        resKind := t.resKind
        crcfail := t.crcfail
        opr := .meas
        tmo := timeout
        scratch := Memory.write s.scratch 0 0xFD#8
        phase := .xferWait
        sent := s.sent ++ [.xfer s.devh [0xFD#8] 6 timeout] }

/-- R172: `readSerialNumber` in an idle, *Ready* block stages `0x89` and requests the exchange, with the encodings
the rule names. Nothing else changes but the two registers that keep the last result, of which
AcceptedRequestsClearTheLastResult speaks. -/
def Obligations.ReadSerialNumberStartsItsExchange : Prop :=
  ∀ (s : State) (bus : BusHandle) (speed : Nat) (timeout : Timeout),
    s.cfg.conforms = true → s.phase = .idle → s.ready = true →
    decode s.cfg (.hreq 2 bus speed timeout) = .ok (.readSerialNumber timeout) ∧
    encode s.cfg .readSn = .cmd8 0x89#8 ∧
    ∃ t, exec (.readSerialNumber timeout) s = .next t ∧ Memory.read t.scratch 0 = 0x89#8 ∧
      t = { s with
        resKind := t.resKind
        crcfail := t.crcfail
        opr := .rdsn
        tmo := timeout
        scratch := Memory.write s.scratch 0 0x89#8
        phase := .xferWait
        sent := s.sent ++ [.xfer s.devh [0x89#8] 6 timeout] }

/-- R160 (the spec's decisions D16, D17): every request that passes, legal or not, clears the last result. -/
def Obligations.AcceptedRequestsClearTheLastResult : Prop :=
  ∀ (s t : State) (op : BitVec 2) (bus : BusHandle) (speed : Nat) (timeout : Timeout),
    onRequest op bus speed timeout s = .next t → s.phase = .idle ∧ t.resKind = .none ∧ t.crcfail = 0

/-- R103, R105, R106: a wire command stages its opcode in `SCRATCH[0]`, requests the exchange with the handle and
the timeout the block holds, and waits for it; nothing else changes. That it does so on its own wherever no exchange
is in flight is the model's choice (notes/assumptions/12.md). -/
def Obligations.WireCommandsStageTheirOpcode : Prop :=
  ∀ s : State, s.cfg.conforms = true → s.phase ≠ .xferWait →
    (∃ t, exec .measHp s = .next t ∧ Memory.read t.scratch 0 = 0xFD#8 ∧
      t = { s with
        scratch := Memory.write s.scratch 0 0xFD#8
        phase := .xferWait
        sent := s.sent ++ [.xfer s.devh [0xFD#8] 6 s.tmo] }) ∧
    (∃ t, exec .readSn s = .next t ∧ Memory.read t.scratch 0 = 0x89#8 ∧
      t = { s with
        scratch := Memory.write s.scratch 0 0x89#8
        phase := .xferWait
        sent := s.sent ++ [.xfer s.devh [0x89#8] 6 s.tmo] })

/-- The frame of every instruction (R103, R161, R166, R172, R199): which registers none of them writes; `initialize`
and a request that starts nothing store nothing; the others store one byte, at offset 0. That an illegal request
keeps `ERRDETAIL` is the model's reading (notes/assumptions/10.md). -/
def Obligations.InstructionsLeaveTheRestAlone : Prop :=
  ∀ (i : Instr) (s t : State), exec i s = .next t →
    t.cfg = s.cfg ∧ t.devh = s.devh ∧ t.ready = s.ready ∧ t.errdetail = s.errdetail ∧ t.tempQ16 = s.tempQ16 ∧
    t.rhQ16 = s.rhQ16 ∧ t.serial = s.serial ∧ t.inbox = s.inbox ∧ t.draws = s.draws ∧
    (∀ a, a ≠ 0 → Memory.read t.scratch a = Memory.read s.scratch a) ∧
    (t.phase ≠ .xferWait → (∀ a, Memory.read t.scratch a = Memory.read s.scratch a)) ∧
    (t.phase = .idle → t.opr = s.opr ∧ t.tmo = s.tmo) ∧
    (t.phase ≠ .idle → t.status = s.status) ∧
    (i = .measHp ∨ i = .readSn →
      t.opr = s.opr ∧ t.tmo = s.tmo ∧ t.resKind = s.resKind ∧ t.crcfail = s.crcfail ∧ t.status = s.status)

/-- R199 (the spec's decision D16): a request that is not legal in the present operational state, or carries the
reserved `op`, changes nothing but `STATUS`, `RES_KIND` and `CRCFAIL`, and is answered. That `ERRDETAIL` keeps its
content is the model's reading (notes/assumptions/10.md). -/
def Obligations.IllegalRequestsAreAnsweredAndChangeNothingElse : Prop :=
  ∀ (s t : State), s.cfg.conforms = true → s.phase = .idle →
    t = { s with
      resKind := .none
      crcfail := 0
      status := 5
      sent := s.sent ++ [.rsp { status := 5, errdetail := none, crcfail := 0, resKind := .none,
                                tempQ16 := none, rhQ16 := none, serial := none }] } →
    (s.ready = true → ∀ (bus : BusHandle) (speed : Nat) (timeout : Timeout),
      exec (.initializeDevice bus speed timeout) s = .next t) ∧
    (s.ready = false → ∀ timeout : Timeout,
      exec (.readMeasurement timeout) s = .next t ∧ exec (.readSerialNumber timeout) s = .next t) ∧
    (∀ (bus : BusHandle) (speed : Nat) (timeout : Timeout), onRequest 3 bus speed timeout s = .next t)

/-- R160, R72 (the spec's decision D20): a request while an operation is in flight has no step (U1: refuse), and a
wire command none while its exchange is in flight (R40, R71). The refusals' names are the model's
(notes/assumptions/12.md, 13.md). -/
def Obligations.BusyBlockRefusesRequests : Prop :=
  ∀ (s : State) (bus : BusHandle) (speed : Nat) (timeout : Timeout), s.phase ≠ .idle →
    exec (.initializeDevice bus speed timeout) s = .refused .requestWhileBusy ∧
    exec (.readMeasurement timeout) s = .refused .requestWhileBusy ∧
    exec (.readSerialNumber timeout) s = .refused .requestWhileBusy ∧
    (s.phase = .xferWait →
      exec .measHp s = .refused .exchangeInFlight ∧ exec .readSn s = .refused .exchangeInFlight)

/-! ### The step -/

/-- A step runs the decoded instruction (R12, R160): when the next message is a request whose op field decodes to a
well-formed instruction, the step is that instruction's meaning after the message has left the inbox. -/
def Obligations.StepRunsTheRequestedInstruction : Prop :=
  ∀ (s : State) (op : BitVec 2) (bus : BusHandle) (speed : Nat) (timeout : Timeout) (rest : List Input) (i : Instr),
    s.inbox = .req op bus speed timeout :: rest → fitsWidth s.cfg.bushW bus.token = true →
    decode s.cfg (.hreq op bus speed timeout) = .ok i →
    i.wf s.cfg = true ∧ step s = exec i { s with inbox := rest }

/-- The wire commands run inside the step that starts an exchange (R103, R162, R166, R172): an accepted read is its
command on the state in which the request has been accepted and latched, and an accepted attach is `READ_SN` on the
state that holds the new handle. -/
def Obligations.StartedExchangesRunTheirWireCommand : Prop :=
  (∀ (s : State) (timeout : Timeout), s.phase = .idle → s.ready = true →
    exec (.readMeasurement timeout) s = exec .measHp (latch .meas timeout (clearResult s)) ∧
    exec (.readSerialNumber timeout) s = exec .readSn (latch .rdsn timeout (clearResult s))) ∧
  (∀ (s : State) (h : DevHandle) (rest : List Input),
    s.phase = .attachWait → s.inbox = .attachOk h :: rest → fitsWidth s.cfg.devhW h.token = true →
    step s = exec .readSn { s with inbox := rest, devh := h })

/-- R162: an accepted attach keeps the handle and sends the identity exchange with it; nothing else changes. -/
def Obligations.AcceptedAttachStartsTheIdentityExchange : Prop :=
  ∀ (s : State) (h : DevHandle) (rest : List Input), s.cfg.conforms = true → s.phase = .attachWait →
    s.inbox = .attachOk h :: rest → fitsWidth s.cfg.devhW h.token = true →
    step s = .next { s with
      inbox := rest
      devh := h
      scratch := Memory.write s.scratch 0 0x89#8
      phase := .xferWait
      sent := s.sent ++ [.xfer h [0x89#8] 6 s.tmo] }

/-- R165: a rejected attach ends `initialize` with `BusAttachError` and the transport's code; `SCRATCH`, `DEVH` and
`READY` are not written and no transfer is requested. The number 1 and the recorded code are the spec's decisions
D13 and D23. That `OPR` and `TMO` keep their content in `IDLE` is the model's reading (notes/assumptions/27.md), and
so is the form of `Rsp` (notes/assumptions/11.md). -/
def Obligations.RejectedAttachRaisesBusAttachError : Prop :=
  ∀ (s : State) (e : ErrCode) (rest : List Input), s.cfg.conforms = true → s.phase = .attachWait →
    s.inbox = .attachFailed e :: rest → fitsWidth s.cfg.xerrW e.token = true →
    step s = .next { s with
      inbox := rest
      status := 1
      errdetail := e
      resKind := .none
      phase := .idle
      sent := s.sent ++ [.rsp { status := 1, errdetail := some e, crcfail := s.crcfail, resKind := .none,
                                tempQ16 := none, rhQ16 := none, serial := none }] }

/-- R167, R173, and R163 for the identity exchange: a failed transfer ends the operation with `TransportError`, or
`DeviceNotResponding`, and the transport's code, and runs no datapath unit: `CRCFAIL` and the result registers stay
as they are. `SCRATCH` becomes unspecified (R65), so nothing is said of it. -/
def Obligations.FailedTransferRaisesTheTransportsError : Prop :=
  ∀ (s : State) (e : ErrCode) (rest : List Input), s.cfg.conforms = true → s.phase = .xferWait →
    s.inbox = .xferFailed e :: rest → fitsWidth s.cfg.xerrW e.token = true →
    ∃ t p, step s = .next t ∧ t.sent = s.sent ++ [.rsp p] ∧ p.status = t.status ∧ p.errdetail = some e ∧
      t.status = s.cfg.codes.number (if s.opr = .init then .deviceNotResponding else .transportError) ∧
      t.errdetail = e ∧ t.resKind = .none ∧ t.phase = .idle ∧
      t.ready = s.ready ∧ t.devh = s.devh ∧ t.crcfail = s.crcfail ∧
      t.tempQ16 = s.tempQ16 ∧ t.rhQ16 = s.rhQ16 ∧ t.serial = s.serial ∧ t.cfg = s.cfg ∧ t.inbox = rest

/-- R62, R179 (marked by the spec as derived) and R126: after a successful transfer the six bytes stand in
`SCRATCH`, no other offset changed, and `CRCFAIL` holds the verdict on each word. -/
def Obligations.ResponseLandsAndIsChecked : Prop :=
  ∀ (s : State) (r : Rsp48) (rest : List Input), s.cfg.conforms = true →
    Memory.wf s.cfg.wire.scratchLen s.scratch = true → s.phase = .xferWait → s.inbox = .xferOk r :: rest →
    ∃ t, step s = .next t ∧ t.phase = .idle ∧
      Memory.read t.scratch 0 = r.b0 ∧ Memory.read t.scratch 1 = r.b1 ∧ Memory.read t.scratch 2 = r.b2 ∧
      Memory.read t.scratch 3 = r.b3 ∧ Memory.read t.scratch 4 = r.b4 ∧ Memory.read t.scratch 5 = r.b5 ∧
      (∀ a, 6 ≤ a → Memory.read t.scratch a = Memory.read s.scratch a) ∧
      (t.crcfail.getLsbD 0 = true ↔ crc8 s.cfg.crc r.b0 r.b1 ≠ r.b2) ∧
      (t.crcfail.getLsbD 1 = true ↔ crc8 s.cfg.crc r.b3 r.b4 ≠ r.b5)

/-- R168: a successful transfer of `readMeasurement` writes and returns the converted words if both checks pass,
else it ends in `ChecksumError` and writes no result. The two equations on the registers' signed values are the
rule's, in a block without the optional clamps of R141. -/
def Obligations.MeasurementIsReturnedOnlyIfBothWordsPass : Prop :=
  ∀ (s : State) (r : Rsp48) (rest : List Input), s.cfg.conforms = true →
    Memory.wf s.cfg.wire.scratchLen s.scratch = true → s.phase = .xferWait → s.opr = .meas →
    s.inbox = .xferOk r :: rest →
    ∃ t p, step s = .next t ∧ t.phase = .idle ∧ t.ready = s.ready ∧ t.devh = s.devh ∧
      t.serial = s.serial ∧ t.cfg = s.cfg ∧ t.inbox = rest ∧
      t.sent = s.sent ++ [.rsp p] ∧ p.status = t.status ∧ p.resKind = t.resKind ∧
      (crc8 s.cfg.crc r.b0 r.b1 = r.b2 ∧ crc8 s.cfg.crc r.b3 r.b4 = r.b5 →
        t.status = s.cfg.codes.number .ok ∧ t.resKind = .measurement ∧
        t.tempQ16 = convertTemp s.cfg.conv (r.b0 ++ r.b1) ∧ t.rhQ16 = convertRh s.cfg.conv (r.b3 ++ r.b4) ∧
        (s.cfg.conv.tMin = none → t.tempQ16.toInt = min (tempRaw s.cfg.conv (r.b0 ++ r.b1)) 6553600) ∧
        (s.cfg.conv.rhMax = none → t.rhQ16.toInt = max (rhRaw s.cfg.conv (r.b3 ++ r.b4)) 0) ∧
        p.tempQ16 = some t.tempQ16 ∧ p.rhQ16 = some t.rhQ16) ∧
      (¬ (crc8 s.cfg.crc r.b0 r.b1 = r.b2 ∧ crc8 s.cfg.crc r.b3 r.b4 = r.b5) →
        t.status = s.cfg.codes.number .checksumError ∧ t.resKind = .none ∧ t.tempQ16 = s.tempQ16 ∧ t.rhQ16 = s.rhQ16)

/-- R174: a successful transfer of `readSerialNumber` writes and returns the assembled serial number if both checks
pass, else it ends in `ChecksumError` and writes no result. -/
def Obligations.SerialIsReturnedOnlyIfBothWordsPass : Prop :=
  ∀ (s : State) (r : Rsp48) (rest : List Input), s.cfg.conforms = true →
    Memory.wf s.cfg.wire.scratchLen s.scratch = true → s.phase = .xferWait → s.opr = .rdsn →
    s.inbox = .xferOk r :: rest →
    ∃ t p, step s = .next t ∧ t.phase = .idle ∧ t.ready = s.ready ∧ t.devh = s.devh ∧
      t.tempQ16 = s.tempQ16 ∧ t.rhQ16 = s.rhQ16 ∧ t.cfg = s.cfg ∧ t.inbox = rest ∧
      t.sent = s.sent ++ [.rsp p] ∧ p.status = t.status ∧ p.resKind = t.resKind ∧
      (crc8 s.cfg.crc r.b0 r.b1 = r.b2 ∧ crc8 s.cfg.crc r.b3 r.b4 = r.b5 →
        t.status = s.cfg.codes.number .ok ∧ t.resKind = .serial ∧
        t.serial = ((r.b0 ++ r.b1).setWidth 32 <<< 16) ||| (r.b3 ++ r.b4).setWidth 32 ∧
        p.serial = some t.serial) ∧
      (¬ (crc8 s.cfg.crc r.b0 r.b1 = r.b2 ∧ crc8 s.cfg.crc r.b3 r.b4 = r.b5) →
        t.status = s.cfg.codes.number .checksumError ∧ t.resKind = .none ∧ t.serial = s.serial)

/-- R164 (the spec's decisions D10, D25, D29): a successful transfer of `initialize` makes the block *Ready* and
returns no serial number, whatever the bytes, unless the block is one that makes a failed check fatal; then it is
`ChecksumError` and `READY` stays. That `ERRDETAIL` keeps its content after a success, and `OPR` and `TMO` theirs in
`IDLE`, is the model's reading (notes/assumptions/10.md, 27.md), and so is the form of `Rsp`
(notes/assumptions/11.md). -/
def Obligations.InitializeEndsReadyUnlessTheCheckIsFatal : Prop :=
  ∀ (s : State) (r : Rsp48) (rest : List Input), s.cfg.conforms = true →
    Memory.wf s.cfg.wire.scratchLen s.scratch = true → s.phase = .xferWait → s.opr = .init →
    s.inbox = .xferOk r :: rest →
    ∃ t, step s = .next t ∧ t.phase = .idle ∧ t.resKind = .none ∧ t.tempQ16 = s.tempQ16 ∧ t.rhQ16 = s.rhQ16 ∧
      t.serial = s.serial ∧ t.devh = s.devh ∧ t.opr = s.opr ∧ t.tmo = s.tmo ∧ t.cfg = s.cfg ∧ t.inbox = rest ∧
      (s.cfg.initCrcFatal = false ∨ (crc8 s.cfg.crc r.b0 r.b1 = r.b2 ∧ crc8 s.cfg.crc r.b3 r.b4 = r.b5) →
        t.ready = true ∧ t.status = 0 ∧ t.errdetail = s.errdetail ∧
        t.sent = s.sent ++ [.rsp { status := 0, errdetail := none, crcfail := t.crcfail, resKind := .none,
                                   tempQ16 := none, rhQ16 := none, serial := none }]) ∧
      (s.cfg.initCrcFatal = true → ¬ (crc8 s.cfg.crc r.b0 r.b1 = r.b2 ∧ crc8 s.cfg.crc r.b3 r.b4 = r.b5) →
        t.ready = s.ready ∧ t.status = 4 ∧
        t.sent = s.sent ++ [.rsp { status := 4, errdetail := none, crcfail := t.crcfail, resKind := .none,
                                   tempQ16 := none, rhQ16 := none, serial := none }])

/-- R178 (marked by the spec as derived): an answer that nothing waits for has no step (U13: refuse); the refusal's
name is the model's (notes/assumptions/14.md). -/
def Obligations.UnsolicitedAnswersHaveNoStep : Prop :=
  ∀ (s : State) (rest : List Input),
    (s.phase ≠ .attachWait → ∀ h : DevHandle, s.inbox = .attachOk h :: rest →
      fitsWidth s.cfg.devhW h.token = true → step s = .refused .unsolicitedAnswer) ∧
    (s.phase ≠ .attachWait → ∀ e : ErrCode, s.inbox = .attachFailed e :: rest →
      fitsWidth s.cfg.xerrW e.token = true → step s = .refused .unsolicitedAnswer) ∧
    (s.phase ≠ .xferWait → ∀ r : Rsp48, s.inbox = .xferOk r :: rest → step s = .refused .unsolicitedAnswer) ∧
    (s.phase ≠ .xferWait → ∀ e : ErrCode, s.inbox = .xferFailed e :: rest →
      fitsWidth s.cfg.xerrW e.token = true → step s = .refused .unsolicitedAnswer)

/-- R191 (the spec's decisions D13, D16): the numbers `STATUS` takes; no two outcomes share one. -/
def Obligations.OutcomesHaveTheirStatusNumbers : Prop :=
  ∀ cfg : Config, cfg.conforms = true →
    cfg.codes.number .ok = 0 ∧ cfg.codes.number .busAttachError = 1 ∧ cfg.codes.number .deviceNotResponding = 2 ∧
    cfg.codes.number .transportError = 3 ∧ cfg.codes.number .checksumError = 4 ∧
    cfg.codes.number .illegalRequest = 5 ∧
    ∀ j k : StatusKind, cfg.codes.number j = cfg.codes.number k → j = k

/-! ### Reset and waiting -/

/-- R42 (the spec's decision D22): the fields the spec gives a value after reset, in a block with any conforming
parameters; the default block is one of them. -/
def Obligations.ResetLeavesTheValuesOfTheSpec : Prop :=
  State.reset = State.resetWith Config.default ∧ Config.default.conforms = true ∧
  ∀ cfg : Config, cfg.conforms = true →
    (State.resetWith cfg).ready = false ∧ (State.resetWith cfg).phase = .idle ∧ (State.resetWith cfg).status = 0 ∧
    (State.resetWith cfg).crcfail = 0 ∧ (State.resetWith cfg).resKind = .none

/-- R36, R220 (the spec's decision D22): an `rst` edge puts the fields R42 gives a value into it from any state,
abandons an operation in flight without a message, and changes no parameter. -/
def Obligations.ResetEdgeAbandonsTheOperation : Prop :=
  ∀ (s : State) (rest : List Input), s.cfg.conforms = true → s.inbox = .rst :: rest →
    ∃ t, step s = .next t ∧ t.ready = false ∧ t.phase = .idle ∧ t.status = 0 ∧ t.crcfail = 0 ∧ t.resKind = .none ∧
      t.sent = s.sent ∧ t.inbox = rest ∧ t.cfg = s.cfg

/-- R238: a block to which nothing arrives stays as it is for ever, an operation in flight with it. -/
def Obligations.BlockWaitsForEverWithoutAMessage : Prop :=
  ∀ (n : Nat) (s : State), s.inbox = [] → Sys2Proof.core.run n s = .next s

/-! ### The whole machine -/

/-- The invariant holds after reset, in a block with any conforming parameters. -/
def Obligations.RegisterInvariantHoldsAtReset : Prop :=
  ∀ cfg : Config, cfg.conforms = true → Inv (State.resetWith cfg)

/-- Every step keeps the invariant (R7, R23, R28, R31, R50, R160, R196). -/
def Obligations.EveryStepKeepsTheRegisterInvariant : Prop :=
  ∀ s t : State, Inv s → step s = .next t → Inv t

/-- R50: no step of a conforming block accesses an offset that does not exist; a conforming block never faults. -/
def Obligations.ConformingBlockNeverFaults : Prop :=
  ∀ s : State, s.cfg.conforms = true → safeStep s

/-- R7: the parameters of a block are fixed while it runs. -/
def Obligations.NoStepWritesTheParameters : Prop :=
  ∀ s t : State, step s = .next t → t.cfg = s.cfg

/-- R178 (marked by the spec as derived): every step is one of the rows of the transition table, and `READY` changes
from 0 to 1 only at the end of `initialize` (and to 0 only by `rst`). -/
def Obligations.EveryStepIsARowOfTheTransitionTable : Prop :=
  ∀ s t : State, step s = .next t →
    (s.inbox = [] ∧ t = s) ∨
    (∃ rest, s.inbox = .rst :: rest ∧ t.phase = .idle ∧ t.ready = false) ∨
    (∃ op bus speed timeout rest, s.inbox = .req op bus speed timeout :: rest ∧ s.phase = .idle ∧
      t.ready = s.ready ∧
      ((op = s.cfg.opSel.opInit ∧ s.ready = false ∧ t.phase = .attachWait) ∨
       (op ≠ s.cfg.opSel.opInit ∧ s.ready = true ∧ t.phase = .xferWait ∧
         (op = s.cfg.opSel.opMeas ∨ op = s.cfg.opSel.opRdsn)) ∨
       (t.phase = .idle ∧ (op = s.cfg.opSel.opInit → s.ready = true) ∧
         (op ≠ s.cfg.opSel.opInit → op = s.cfg.opSel.opMeas ∨ op = s.cfg.opSel.opRdsn → s.ready = false)))) ∨
    (∃ h rest, s.inbox = .attachOk h :: rest ∧ s.phase = .attachWait ∧ t.phase = .xferWait ∧ t.ready = s.ready) ∨
    (∃ e rest, s.inbox = .attachFailed e :: rest ∧ s.phase = .attachWait ∧ t.phase = .idle ∧ t.ready = s.ready) ∨
    (∃ r rest, s.inbox = .xferOk r :: rest ∧ s.phase = .xferWait ∧ t.phase = .idle ∧
      (t.ready = s.ready ∨ (s.opr = .init ∧ t.ready = true))) ∨
    (∃ e rest, s.inbox = .xferFailed e :: rest ∧ s.phase = .xferWait ∧ t.phase = .idle ∧ t.ready = s.ready)

/-- R180: a step that takes a message other than `rst` sends exactly one `Rsp` if it leaves the block idle and none
otherwise. -/
def Obligations.EveryOperationEndsWithOneResponse : Prop :=
  ∀ (s t : State) (m : Input) (rest : List Input), s.inbox = m :: rest → m ≠ .rst → step s = .next t →
    rspCount t.sent = rspCount s.sent + (if t.phase = .idle then 1 else 0)

/-- R40 (the spec's decision D5), R205: a step that takes a message other than `rst` sends exactly one request to
the transport if it leaves the block waiting and none otherwise; none is sent while a transfer is outstanding. -/
def Obligations.OneTransportRequestForEachWait : Prop :=
  ∀ (s t : State) (m : Input) (rest : List Input), s.inbox = m :: rest → m ≠ .rst → step s = .next t →
    attachCount t.sent + xferCount t.sent =
      attachCount s.sent + xferCount s.sent + (if t.phase = .idle then 0 else 1) ∧
    (s.phase = .xferWait → t.phase = .idle)

/-- R182: the traffic of each operation from its request to its end, exactly. -/
def Obligations.OperationsSendExactlyTheirTraffic : Prop :=
  ∀ (s : State) (bus : BusHandle) (speed : Nat) (timeout : Timeout) (answer : Input) (rest : List Input),
    Inv s → s.phase = .idle → fitsWidth s.cfg.bushW bus.token = true →
    ((∃ r, answer = .xferOk r) ∨ (∃ e, answer = .xferFailed e ∧ fitsWidth s.cfg.xerrW e.token = true)) →
    (s.ready = false → ∀ h : DevHandle, fitsWidth s.cfg.devhW h.token = true →
      s.inbox = .req s.cfg.opSel.opInit bus speed timeout :: .attachOk h :: answer :: rest →
      ∃ t, Sys2Proof.core.run 3 s = .next t ∧ t.phase = .idle ∧ t.inbox = rest ∧
        attachCount t.sent = attachCount s.sent + 1 ∧ xferCount t.sent = xferCount s.sent + 1 ∧
        rspCount t.sent = rspCount s.sent + 1) ∧
    (s.ready = false → ∀ e : ErrCode, fitsWidth s.cfg.xerrW e.token = true →
      s.inbox = .req s.cfg.opSel.opInit bus speed timeout :: .attachFailed e :: rest →
      ∃ t, Sys2Proof.core.run 2 s = .next t ∧ t.phase = .idle ∧ t.inbox = rest ∧
        attachCount t.sent = attachCount s.sent + 1 ∧ xferCount t.sent = xferCount s.sent ∧
        rspCount t.sent = rspCount s.sent + 1) ∧
    (s.ready = true → ∀ op : BitVec 2, op = s.cfg.opSel.opMeas ∨ op = s.cfg.opSel.opRdsn →
      s.inbox = .req op bus speed timeout :: answer :: rest →
      ∃ t, Sys2Proof.core.run 2 s = .next t ∧ t.phase = .idle ∧ t.inbox = rest ∧
        attachCount t.sent = attachCount s.sent ∧ xferCount t.sent = xferCount s.sent + 1 ∧
        rspCount t.sent = rspCount s.sent + 1) ∧
    (∀ op : BitVec 2, (op = s.cfg.opSel.opInit → s.ready = true) →
      (op = s.cfg.opSel.opMeas ∨ op = s.cfg.opSel.opRdsn → s.ready = false) →
      s.inbox = .req op bus speed timeout :: rest →
      ∃ t, step s = .next t ∧ t.phase = .idle ∧ t.inbox = rest ∧ attachCount t.sent = attachCount s.sent ∧
        xferCount t.sent = xferCount s.sent ∧ rspCount t.sent = rspCount s.sent + 1)

/-- R66: what an operation returns is a function of its own response and of the parameters: two blocks that agree on
these alone, whatever their scratch buffers and registers held, give the same verdict and the same result. -/
def Obligations.NoLeakBetweenExchanges : Prop :=
  ∀ (s1 s2 t1 t2 : State) (r : Rsp48) (rest1 rest2 : List Input),
    s1.cfg.conforms = true → s2.cfg = s1.cfg → s2.opr = s1.opr →
    Memory.wf s1.cfg.wire.scratchLen s1.scratch = true → Memory.wf s2.cfg.wire.scratchLen s2.scratch = true →
    s1.inbox = .xferOk r :: rest1 → s2.inbox = .xferOk r :: rest2 → step s1 = .next t1 → step s2 = .next t2 →
    t1.status = t2.status ∧ t1.crcfail = t2.crcfail ∧ t1.resKind = t2.resKind ∧
    t1.validTemp = t2.validTemp ∧ t1.validRh = t2.validRh ∧ t1.validSerial = t2.validSerial

/-- R131: a step that changes a result register or makes a result valid is an `rst` edge, after which no result is
valid, or the successful transfer of a read whose two words both passed their checks; and a successful transfer with
a failed check raises `ChecksumError`, but for `initialize` in a block that does not make it fatal, and there no
data is returned. -/
def Obligations.OnlyValidatedWordsReachTheResults : Prop :=
  ∀ s t : State, s.cfg.conforms = true → Memory.wf s.cfg.wire.scratchLen s.scratch = true → step s = .next t →
    ((t.tempQ16 ≠ s.tempQ16 ∨ t.rhQ16 ≠ s.rhQ16 ∨ t.serial ≠ s.serial ∨
        (t.resKind ≠ s.resKind ∧ t.resKind ≠ .none)) →
      (∃ rest, s.inbox = .rst :: rest ∧ t.resKind = .none) ∨
      (∃ r rest, s.inbox = .xferOk r :: rest ∧ s.opr ≠ .init ∧
        crc8 s.cfg.crc r.b0 r.b1 = r.b2 ∧ crc8 s.cfg.crc r.b3 r.b4 = r.b5)) ∧
    (∀ r rest, s.inbox = .xferOk r :: rest →
      ¬ (crc8 s.cfg.crc r.b0 r.b1 = r.b2 ∧ crc8 s.cfg.crc r.b3 r.b4 = r.b5) →
      t.resKind = .none ∧ t.tempQ16 = s.tempQ16 ∧ t.rhQ16 = s.rhQ16 ∧ t.serial = s.serial ∧
      (t.status = s.cfg.codes.number .checksumError ∨ (s.opr = .init ∧ s.cfg.initCrcFatal = false)))

/-- R200, R199, R203: a step that answers with an error writes no result register, clears `RES_KIND`, leaves `READY`
as it is and ends in `IDLE`: no error halts the block. -/
def Obligations.ErrorsReturnNoDataAndKeepReady : Prop :=
  ∀ (s t : State) (r : Response), s.cfg.conforms = true → step s = .next t → t.sent = s.sent ++ [.rsp r] →
    r.status ≠ 0 →
    t.status = r.status ∧ t.ready = s.ready ∧ t.phase = .idle ∧ t.resKind = .none ∧ t.tempQ16 = s.tempQ16 ∧
    t.rhQ16 = s.rhQ16 ∧ t.serial = s.serial ∧ r.resKind = .none ∧ r.tempQ16 = none ∧ r.rhQ16 = none ∧ r.serial = none

/-- R39 (the spec's decision D5): `Rsp` is a copy of the registers; it carries the results `RES_KIND` names and no
other, and `ERRDETAIL` for codes 1, 2 and 3 only. What stands in a field without meaning is the model's `none`
(notes/assumptions/11.md). -/
def Obligations.ResponseCopiesTheRegisters : Prop :=
  ∀ (s t : State) (r : Response), s.cfg.conforms = true → step s = .next t → t.sent = s.sent ++ [.rsp r] →
    r.status = t.status ∧ r.crcfail = t.crcfail ∧ r.resKind = t.resKind ∧
    r.tempQ16 = (if t.resKind = .measurement then some t.tempQ16 else none) ∧
    r.rhQ16 = (if t.resKind = .measurement then some t.rhQ16 else none) ∧
    r.serial = (if t.resKind = .serial then some t.serial else none) ∧
    r.errdetail = (if t.status = 1 ∨ t.status = 2 ∨ t.status = 3 then some t.errdetail else none)

/-- R242 (the spec's decision D4): a run that is over, although an `rst` edge or an answer may still arrive, stays
over and sends nothing more. -/
def Obligations.RunThatIsOverSendsNothingMore : Prop :=
  ∀ s t : State, s.runOver = true → step s = .next t → t.runOver = true ∧ t.sent = s.sent
end

