-- ==== Sys2Proof/Laws/Memory.lean ====
section
/-! SUPPORT. The laws of the scratch buffer: a read after a write, and the canonical form that every memory operation
keeps. -/

namespace Sys2Proof.Machine

/-- A write leaves every other offset alone, whatever the list of cells. -/
theorem Memory.read_write_other (m : Memory) (a b : Nat) (v : Byte) (h : b ≠ a) :
    Memory.read (Memory.write m a v) b = Memory.read m b := by
  induction m with
  | nil =>
    simp only [Memory.write]
    split <;> simp [Memory.read, Ne.symm h]
  | cons c rest ih =>
    obtain ⟨k, w⟩ := c
    simp only [Memory.write]
    split
    · split <;> simp [Memory.read, Ne.symm h]
    · split
      · rename_i hk
        subst hk
        split <;> simp [Memory.read, Ne.symm h]
      · simp only [Memory.read, ih]

/-- Below its lower bound a canonical memory lists nothing. -/
theorem Memory.read_below (m : Memory) (lo len a : Nat) (h : Memory.wfFrom lo len m = true) (ha : a < lo) :
    Memory.read m a = Memory.unlisted := by
  induction m generalizing lo with
  | nil => rfl
  | cons c rest ih =>
    obtain ⟨k, w⟩ := c
    simp only [Memory.wfFrom, Bool.and_eq_true, decide_eq_true_eq] at h
    have hk : ¬ k = a := by omega
    simp only [Memory.read, hk, if_false]
    exact ih (k + 1) h.2 (by omega)

/-- A canonical memory reads what was written. -/
theorem Memory.read_write_same (m : Memory) (lo len a : Nat) (v : Byte) (h : Memory.wfFrom lo len m = true) :
    Memory.read (Memory.write m a v) a = v := by
  induction m generalizing lo with
  | nil =>
    simp only [Memory.write]
    split
    · rename_i hv
      simp [Memory.read, hv]
    · simp [Memory.read]
  | cons c rest ih =>
    obtain ⟨k, w⟩ := c
    have hc := h
    simp only [Memory.wfFrom, Bool.and_eq_true, decide_eq_true_eq] at h
    simp only [Memory.write]
    split
    · split
      · rename_i hlt hv
        have hk : ¬ k = a := by omega
        simp only [Memory.read, hk, if_false]
        exact (Memory.read_below rest (k + 1) len a h.2 (by omega)).trans hv.symm
      · simp [Memory.read]
    · split
      · split
        · rename_i hk hv
          exact (Memory.read_below rest (k + 1) len a h.2 (by omega)).trans hv.symm
        · simp [Memory.read]
      · rename_i hk
        have hka : ¬ k = a := fun e => hk e.symm
        simp only [Memory.read, hka, if_false]
        exact ih (k + 1) h.2

/-- A canonical list may be seen from any lower bound below it. -/
theorem Memory.wfFrom_mono (m : Memory) (lo lo' len : Nat) (h : Memory.wfFrom lo len m = true) (hl : lo' ≤ lo) :
    Memory.wfFrom lo' len m = true := by
  cases m with
  | nil => rfl
  | cons c rest =>
    obtain ⟨k, w⟩ := c
    simp only [Memory.wfFrom, Bool.and_eq_true, decide_eq_true_eq] at h ⊢
    exact ⟨⟨⟨by omega, h.1.1.2⟩, h.1.2⟩, h.2⟩

/-- A write within the bounds keeps the canonical form of the cells from a lower bound on. -/
theorem Memory.wfFrom_write (m : Memory) (lo len a : Nat) (v : Byte) (h : Memory.wfFrom lo len m = true)
    (hlo : lo ≤ a) (ha : a < len) : Memory.wfFrom lo len (Memory.write m a v) = true := by
  induction m generalizing lo with
  | nil =>
    simp only [Memory.write]
    split
    · rfl
    · simp_all [Memory.wfFrom]
  | cons c rest ih =>
    obtain ⟨k, w⟩ := c
    have hc := h
    simp only [Memory.wfFrom, Bool.and_eq_true, decide_eq_true_eq] at h
    simp only [Memory.write]
    split
    · split
      · exact hc
      · rename_i hlt hv
        simp only [Memory.wfFrom, Bool.and_eq_true, decide_eq_true_eq]
        exact ⟨⟨⟨hlo, ha⟩, hv⟩, ⟨⟨by omega, h.1.1.2⟩, h.1.2⟩, h.2⟩
    · split
      · rename_i hk
        subst hk
        split
        · exact Memory.wfFrom_mono rest _ lo len h.2 (by omega)
        · rename_i hv
          simp only [Memory.wfFrom, Bool.and_eq_true, decide_eq_true_eq]
          exact ⟨⟨⟨hlo, ha⟩, hv⟩, h.2⟩
      · simp only [Memory.wfFrom, Bool.and_eq_true, decide_eq_true_eq]
        exact ⟨h.1, ih (k + 1) h.2 (by omega)⟩

/-- A write within the memory keeps its canonical form. -/
theorem Memory.wf_write (m : Memory) (len a : Nat) (v : Byte) (h : Memory.wf len m = true) (ha : a < len) :
    Memory.wf len (Memory.write m a v) = true :=
  Memory.wfFrom_write m 0 len a v h (Nat.zero_le a) ha

/-- Unspecified bytes are held in canonical form, whatever they are. -/
theorem Memory.wf_unspecified (n len draw : Nat) (h : n ≤ len) :
    Memory.wf len (Memory.unspecified n draw) = true := by
  induction n with
  | zero => rfl
  | succ k ih => exact Memory.wf_write _ len k _ (ih (by omega)) (by omega)

/-- The checked store of one byte keeps the canonical form. -/
theorem writeByte_wf (s t : State) (a : Nat) (v : Byte) (h : Memory.wf s.cfg.wire.scratchLen s.scratch = true)
    (ht : writeByte s a v = .ok t) : Memory.wf t.cfg.wire.scratchLen t.scratch = true := by
  simp only [writeByte] at ht
  split at ht
  · cases ht
    exact Memory.wf_write _ _ a v h ‹_›
  · cases ht

/-- The store of consecutive bytes keeps the canonical form. -/
theorem writeBytes_wf (bs : List Byte) (s t : State) (a : Nat)
    (h : Memory.wf s.cfg.wire.scratchLen s.scratch = true) (ht : writeBytes s a bs = .ok t) :
    Memory.wf t.cfg.wire.scratchLen t.scratch = true := by
  induction bs generalizing s a with
  | nil => cases ht; exact h
  | cons b rest ih =>
    simp only [writeBytes] at ht
    split at ht
    · cases ht
    · rename_i s1 hs
      exact ih s1 (a + 1) (writeByte_wf s s1 a b h hs) ht

/-- A failed transfer leaves the scratch buffer in canonical form. -/
theorem loseScratch_wf (s : State) :
    Memory.wf (loseScratch s).cfg.wire.scratchLen (loseScratch s).scratch = true :=
  Memory.wf_unspecified _ _ _ (Nat.le_refl _)

/-- An `rst` edge leaves the scratch buffer in canonical form. -/
theorem applyReset_wf (s : State) :
    Memory.wf (applyReset s).cfg.wire.scratchLen (applyReset s).scratch = true :=
  Memory.wf_unspecified _ _ _ (Nat.le_refl _)

/-- The memory after reset is in canonical form. -/
theorem resetWith_wf (cfg : Config) :
    Memory.wf cfg.wire.scratchLen (State.resetWith cfg).scratch = true := rfl

end Sys2Proof.Machine
end

