-- ==== Sys2Proof/Laws/State.lean ====
section
/-! SUPPORT. One lemma per field of State per named update of the registers: what the update writes, and that it
leaves every other field alone. -/

namespace Sys2Proof.Machine

/-! ### `setScratch` -/

@[simp] theorem setScratch_cfg (m : Memory) (s : State) : (setScratch m s).cfg = s.cfg := rfl
@[simp] theorem setScratch_scratch (m : Memory) (s : State) : (setScratch m s).scratch = m := rfl
@[simp] theorem setScratch_devh (m : Memory) (s : State) : (setScratch m s).devh = s.devh := rfl
@[simp] theorem setScratch_ready (m : Memory) (s : State) : (setScratch m s).ready = s.ready := rfl
@[simp] theorem setScratch_phase (m : Memory) (s : State) : (setScratch m s).phase = s.phase := rfl
@[simp] theorem setScratch_opr (m : Memory) (s : State) : (setScratch m s).opr = s.opr := rfl
@[simp] theorem setScratch_tmo (m : Memory) (s : State) : (setScratch m s).tmo = s.tmo := rfl
@[simp] theorem setScratch_status (m : Memory) (s : State) : (setScratch m s).status = s.status := rfl
@[simp] theorem setScratch_errdetail (m : Memory) (s : State) : (setScratch m s).errdetail = s.errdetail := rfl
@[simp] theorem setScratch_crcfail (m : Memory) (s : State) : (setScratch m s).crcfail = s.crcfail := rfl
@[simp] theorem setScratch_resKind (m : Memory) (s : State) : (setScratch m s).resKind = s.resKind := rfl
@[simp] theorem setScratch_tempQ16 (m : Memory) (s : State) : (setScratch m s).tempQ16 = s.tempQ16 := rfl
@[simp] theorem setScratch_rhQ16 (m : Memory) (s : State) : (setScratch m s).rhQ16 = s.rhQ16 := rfl
@[simp] theorem setScratch_serial (m : Memory) (s : State) : (setScratch m s).serial = s.serial := rfl
@[simp] theorem setScratch_inbox (m : Memory) (s : State) : (setScratch m s).inbox = s.inbox := rfl
@[simp] theorem setScratch_sent (m : Memory) (s : State) : (setScratch m s).sent = s.sent := rfl
@[simp] theorem setScratch_draws (m : Memory) (s : State) : (setScratch m s).draws = s.draws := rfl

/-! ### `dequeue` -/

@[simp] theorem dequeue_cfg (rest : List Input) (s : State) : (dequeue rest s).cfg = s.cfg := rfl
@[simp] theorem dequeue_scratch (rest : List Input) (s : State) : (dequeue rest s).scratch = s.scratch := rfl
@[simp] theorem dequeue_devh (rest : List Input) (s : State) : (dequeue rest s).devh = s.devh := rfl
@[simp] theorem dequeue_ready (rest : List Input) (s : State) : (dequeue rest s).ready = s.ready := rfl
@[simp] theorem dequeue_phase (rest : List Input) (s : State) : (dequeue rest s).phase = s.phase := rfl
@[simp] theorem dequeue_opr (rest : List Input) (s : State) : (dequeue rest s).opr = s.opr := rfl
@[simp] theorem dequeue_tmo (rest : List Input) (s : State) : (dequeue rest s).tmo = s.tmo := rfl
@[simp] theorem dequeue_status (rest : List Input) (s : State) : (dequeue rest s).status = s.status := rfl
@[simp] theorem dequeue_errdetail (rest : List Input) (s : State) : (dequeue rest s).errdetail = s.errdetail := rfl
@[simp] theorem dequeue_crcfail (rest : List Input) (s : State) : (dequeue rest s).crcfail = s.crcfail := rfl
@[simp] theorem dequeue_resKind (rest : List Input) (s : State) : (dequeue rest s).resKind = s.resKind := rfl
@[simp] theorem dequeue_tempQ16 (rest : List Input) (s : State) : (dequeue rest s).tempQ16 = s.tempQ16 := rfl
@[simp] theorem dequeue_rhQ16 (rest : List Input) (s : State) : (dequeue rest s).rhQ16 = s.rhQ16 := rfl
@[simp] theorem dequeue_serial (rest : List Input) (s : State) : (dequeue rest s).serial = s.serial := rfl
@[simp] theorem dequeue_inbox (rest : List Input) (s : State) : (dequeue rest s).inbox = rest := rfl
@[simp] theorem dequeue_sent (rest : List Input) (s : State) : (dequeue rest s).sent = s.sent := rfl
@[simp] theorem dequeue_draws (rest : List Input) (s : State) : (dequeue rest s).draws = s.draws := rfl

/-! ### `setPhase` -/

@[simp] theorem setPhase_cfg (p : Phase) (s : State) : (setPhase p s).cfg = s.cfg := rfl
@[simp] theorem setPhase_scratch (p : Phase) (s : State) : (setPhase p s).scratch = s.scratch := rfl
@[simp] theorem setPhase_devh (p : Phase) (s : State) : (setPhase p s).devh = s.devh := rfl
@[simp] theorem setPhase_ready (p : Phase) (s : State) : (setPhase p s).ready = s.ready := rfl
@[simp] theorem setPhase_phase (p : Phase) (s : State) : (setPhase p s).phase = p := rfl
@[simp] theorem setPhase_opr (p : Phase) (s : State) : (setPhase p s).opr = s.opr := rfl
@[simp] theorem setPhase_tmo (p : Phase) (s : State) : (setPhase p s).tmo = s.tmo := rfl
@[simp] theorem setPhase_status (p : Phase) (s : State) : (setPhase p s).status = s.status := rfl
@[simp] theorem setPhase_errdetail (p : Phase) (s : State) : (setPhase p s).errdetail = s.errdetail := rfl
@[simp] theorem setPhase_crcfail (p : Phase) (s : State) : (setPhase p s).crcfail = s.crcfail := rfl
@[simp] theorem setPhase_resKind (p : Phase) (s : State) : (setPhase p s).resKind = s.resKind := rfl
@[simp] theorem setPhase_tempQ16 (p : Phase) (s : State) : (setPhase p s).tempQ16 = s.tempQ16 := rfl
@[simp] theorem setPhase_rhQ16 (p : Phase) (s : State) : (setPhase p s).rhQ16 = s.rhQ16 := rfl
@[simp] theorem setPhase_serial (p : Phase) (s : State) : (setPhase p s).serial = s.serial := rfl
@[simp] theorem setPhase_inbox (p : Phase) (s : State) : (setPhase p s).inbox = s.inbox := rfl
@[simp] theorem setPhase_sent (p : Phase) (s : State) : (setPhase p s).sent = s.sent := rfl
@[simp] theorem setPhase_draws (p : Phase) (s : State) : (setPhase p s).draws = s.draws := rfl

/-! ### `setDevh` -/

@[simp] theorem setDevh_cfg (h : DevHandle) (s : State) : (setDevh h s).cfg = s.cfg := rfl
@[simp] theorem setDevh_scratch (h : DevHandle) (s : State) : (setDevh h s).scratch = s.scratch := rfl
@[simp] theorem setDevh_devh (h : DevHandle) (s : State) : (setDevh h s).devh = h := rfl
@[simp] theorem setDevh_ready (h : DevHandle) (s : State) : (setDevh h s).ready = s.ready := rfl
@[simp] theorem setDevh_phase (h : DevHandle) (s : State) : (setDevh h s).phase = s.phase := rfl
@[simp] theorem setDevh_opr (h : DevHandle) (s : State) : (setDevh h s).opr = s.opr := rfl
@[simp] theorem setDevh_tmo (h : DevHandle) (s : State) : (setDevh h s).tmo = s.tmo := rfl
@[simp] theorem setDevh_status (h : DevHandle) (s : State) : (setDevh h s).status = s.status := rfl
@[simp] theorem setDevh_errdetail (h : DevHandle) (s : State) : (setDevh h s).errdetail = s.errdetail := rfl
@[simp] theorem setDevh_crcfail (h : DevHandle) (s : State) : (setDevh h s).crcfail = s.crcfail := rfl
@[simp] theorem setDevh_resKind (h : DevHandle) (s : State) : (setDevh h s).resKind = s.resKind := rfl
@[simp] theorem setDevh_tempQ16 (h : DevHandle) (s : State) : (setDevh h s).tempQ16 = s.tempQ16 := rfl
@[simp] theorem setDevh_rhQ16 (h : DevHandle) (s : State) : (setDevh h s).rhQ16 = s.rhQ16 := rfl
@[simp] theorem setDevh_serial (h : DevHandle) (s : State) : (setDevh h s).serial = s.serial := rfl
@[simp] theorem setDevh_inbox (h : DevHandle) (s : State) : (setDevh h s).inbox = s.inbox := rfl
@[simp] theorem setDevh_sent (h : DevHandle) (s : State) : (setDevh h s).sent = s.sent := rfl
@[simp] theorem setDevh_draws (h : DevHandle) (s : State) : (setDevh h s).draws = s.draws := rfl

/-! ### `setReady` -/

@[simp] theorem setReady_cfg (s : State) : (setReady s).cfg = s.cfg := rfl
@[simp] theorem setReady_scratch (s : State) : (setReady s).scratch = s.scratch := rfl
@[simp] theorem setReady_devh (s : State) : (setReady s).devh = s.devh := rfl
@[simp] theorem setReady_ready (s : State) : (setReady s).ready = true := rfl
@[simp] theorem setReady_phase (s : State) : (setReady s).phase = s.phase := rfl
@[simp] theorem setReady_opr (s : State) : (setReady s).opr = s.opr := rfl
@[simp] theorem setReady_tmo (s : State) : (setReady s).tmo = s.tmo := rfl
@[simp] theorem setReady_status (s : State) : (setReady s).status = s.status := rfl
@[simp] theorem setReady_errdetail (s : State) : (setReady s).errdetail = s.errdetail := rfl
@[simp] theorem setReady_crcfail (s : State) : (setReady s).crcfail = s.crcfail := rfl
@[simp] theorem setReady_resKind (s : State) : (setReady s).resKind = s.resKind := rfl
@[simp] theorem setReady_tempQ16 (s : State) : (setReady s).tempQ16 = s.tempQ16 := rfl
@[simp] theorem setReady_rhQ16 (s : State) : (setReady s).rhQ16 = s.rhQ16 := rfl
@[simp] theorem setReady_serial (s : State) : (setReady s).serial = s.serial := rfl
@[simp] theorem setReady_inbox (s : State) : (setReady s).inbox = s.inbox := rfl
@[simp] theorem setReady_sent (s : State) : (setReady s).sent = s.sent := rfl
@[simp] theorem setReady_draws (s : State) : (setReady s).draws = s.draws := rfl

/-! ### `setCrcfail` -/

@[simp] theorem setCrcfail_cfg (v : BitVec 2) (s : State) : (setCrcfail v s).cfg = s.cfg := rfl
@[simp] theorem setCrcfail_scratch (v : BitVec 2) (s : State) : (setCrcfail v s).scratch = s.scratch := rfl
@[simp] theorem setCrcfail_devh (v : BitVec 2) (s : State) : (setCrcfail v s).devh = s.devh := rfl
@[simp] theorem setCrcfail_ready (v : BitVec 2) (s : State) : (setCrcfail v s).ready = s.ready := rfl
@[simp] theorem setCrcfail_phase (v : BitVec 2) (s : State) : (setCrcfail v s).phase = s.phase := rfl
@[simp] theorem setCrcfail_opr (v : BitVec 2) (s : State) : (setCrcfail v s).opr = s.opr := rfl
@[simp] theorem setCrcfail_tmo (v : BitVec 2) (s : State) : (setCrcfail v s).tmo = s.tmo := rfl
@[simp] theorem setCrcfail_status (v : BitVec 2) (s : State) : (setCrcfail v s).status = s.status := rfl
@[simp] theorem setCrcfail_errdetail (v : BitVec 2) (s : State) : (setCrcfail v s).errdetail = s.errdetail := rfl
@[simp] theorem setCrcfail_crcfail (v : BitVec 2) (s : State) : (setCrcfail v s).crcfail = v := rfl
@[simp] theorem setCrcfail_resKind (v : BitVec 2) (s : State) : (setCrcfail v s).resKind = s.resKind := rfl
@[simp] theorem setCrcfail_tempQ16 (v : BitVec 2) (s : State) : (setCrcfail v s).tempQ16 = s.tempQ16 := rfl
@[simp] theorem setCrcfail_rhQ16 (v : BitVec 2) (s : State) : (setCrcfail v s).rhQ16 = s.rhQ16 := rfl
@[simp] theorem setCrcfail_serial (v : BitVec 2) (s : State) : (setCrcfail v s).serial = s.serial := rfl
@[simp] theorem setCrcfail_inbox (v : BitVec 2) (s : State) : (setCrcfail v s).inbox = s.inbox := rfl
@[simp] theorem setCrcfail_sent (v : BitVec 2) (s : State) : (setCrcfail v s).sent = s.sent := rfl
@[simp] theorem setCrcfail_draws (v : BitVec 2) (s : State) : (setCrcfail v s).draws = s.draws := rfl

/-! ### `setMeasurement` -/

@[simp] theorem setMeasurement_cfg (a b : ResultWord) (s : State) : (setMeasurement a b s).cfg = s.cfg := rfl
@[simp] theorem setMeasurement_scratch (a b : ResultWord) (s : State) : (setMeasurement a b s).scratch = s.scratch := rfl
@[simp] theorem setMeasurement_devh (a b : ResultWord) (s : State) : (setMeasurement a b s).devh = s.devh := rfl
@[simp] theorem setMeasurement_ready (a b : ResultWord) (s : State) : (setMeasurement a b s).ready = s.ready := rfl
@[simp] theorem setMeasurement_phase (a b : ResultWord) (s : State) : (setMeasurement a b s).phase = s.phase := rfl
@[simp] theorem setMeasurement_opr (a b : ResultWord) (s : State) : (setMeasurement a b s).opr = s.opr := rfl
@[simp] theorem setMeasurement_tmo (a b : ResultWord) (s : State) : (setMeasurement a b s).tmo = s.tmo := rfl
@[simp] theorem setMeasurement_status (a b : ResultWord) (s : State) : (setMeasurement a b s).status = s.status := rfl
@[simp] theorem setMeasurement_errdetail (a b : ResultWord) (s : State) :
    (setMeasurement a b s).errdetail =
      s.errdetail := rfl
@[simp] theorem setMeasurement_crcfail (a b : ResultWord) (s : State) : (setMeasurement a b s).crcfail = s.crcfail := rfl
@[simp] theorem setMeasurement_resKind (a b : ResultWord) (s : State) : (setMeasurement a b s).resKind = s.resKind := rfl
@[simp] theorem setMeasurement_tempQ16 (a b : ResultWord) (s : State) : (setMeasurement a b s).tempQ16 = a := rfl
@[simp] theorem setMeasurement_rhQ16 (a b : ResultWord) (s : State) : (setMeasurement a b s).rhQ16 = b := rfl
@[simp] theorem setMeasurement_serial (a b : ResultWord) (s : State) : (setMeasurement a b s).serial = s.serial := rfl
@[simp] theorem setMeasurement_inbox (a b : ResultWord) (s : State) : (setMeasurement a b s).inbox = s.inbox := rfl
@[simp] theorem setMeasurement_sent (a b : ResultWord) (s : State) : (setMeasurement a b s).sent = s.sent := rfl
@[simp] theorem setMeasurement_draws (a b : ResultWord) (s : State) : (setMeasurement a b s).draws = s.draws := rfl

/-! ### `setSerial` -/

@[simp] theorem setSerial_cfg (v : Word32) (s : State) : (setSerial v s).cfg = s.cfg := rfl
@[simp] theorem setSerial_scratch (v : Word32) (s : State) : (setSerial v s).scratch = s.scratch := rfl
@[simp] theorem setSerial_devh (v : Word32) (s : State) : (setSerial v s).devh = s.devh := rfl
@[simp] theorem setSerial_ready (v : Word32) (s : State) : (setSerial v s).ready = s.ready := rfl
@[simp] theorem setSerial_phase (v : Word32) (s : State) : (setSerial v s).phase = s.phase := rfl
@[simp] theorem setSerial_opr (v : Word32) (s : State) : (setSerial v s).opr = s.opr := rfl
@[simp] theorem setSerial_tmo (v : Word32) (s : State) : (setSerial v s).tmo = s.tmo := rfl
@[simp] theorem setSerial_status (v : Word32) (s : State) : (setSerial v s).status = s.status := rfl
@[simp] theorem setSerial_errdetail (v : Word32) (s : State) : (setSerial v s).errdetail = s.errdetail := rfl
@[simp] theorem setSerial_crcfail (v : Word32) (s : State) : (setSerial v s).crcfail = s.crcfail := rfl
@[simp] theorem setSerial_resKind (v : Word32) (s : State) : (setSerial v s).resKind = s.resKind := rfl
@[simp] theorem setSerial_tempQ16 (v : Word32) (s : State) : (setSerial v s).tempQ16 = s.tempQ16 := rfl
@[simp] theorem setSerial_rhQ16 (v : Word32) (s : State) : (setSerial v s).rhQ16 = s.rhQ16 := rfl
@[simp] theorem setSerial_serial (v : Word32) (s : State) : (setSerial v s).serial = v := rfl
@[simp] theorem setSerial_inbox (v : Word32) (s : State) : (setSerial v s).inbox = s.inbox := rfl
@[simp] theorem setSerial_sent (v : Word32) (s : State) : (setSerial v s).sent = s.sent := rfl
@[simp] theorem setSerial_draws (v : Word32) (s : State) : (setSerial v s).draws = s.draws := rfl

/-! ### `setErrDetail` -/

@[simp] theorem setErrDetail_cfg (e : ErrCode) (s : State) : (setErrDetail e s).cfg = s.cfg := rfl
@[simp] theorem setErrDetail_scratch (e : ErrCode) (s : State) : (setErrDetail e s).scratch = s.scratch := rfl
@[simp] theorem setErrDetail_devh (e : ErrCode) (s : State) : (setErrDetail e s).devh = s.devh := rfl
@[simp] theorem setErrDetail_ready (e : ErrCode) (s : State) : (setErrDetail e s).ready = s.ready := rfl
@[simp] theorem setErrDetail_phase (e : ErrCode) (s : State) : (setErrDetail e s).phase = s.phase := rfl
@[simp] theorem setErrDetail_opr (e : ErrCode) (s : State) : (setErrDetail e s).opr = s.opr := rfl
@[simp] theorem setErrDetail_tmo (e : ErrCode) (s : State) : (setErrDetail e s).tmo = s.tmo := rfl
@[simp] theorem setErrDetail_status (e : ErrCode) (s : State) : (setErrDetail e s).status = s.status := rfl
@[simp] theorem setErrDetail_errdetail (e : ErrCode) (s : State) : (setErrDetail e s).errdetail = e := rfl
@[simp] theorem setErrDetail_crcfail (e : ErrCode) (s : State) : (setErrDetail e s).crcfail = s.crcfail := rfl
@[simp] theorem setErrDetail_resKind (e : ErrCode) (s : State) : (setErrDetail e s).resKind = s.resKind := rfl
@[simp] theorem setErrDetail_tempQ16 (e : ErrCode) (s : State) : (setErrDetail e s).tempQ16 = s.tempQ16 := rfl
@[simp] theorem setErrDetail_rhQ16 (e : ErrCode) (s : State) : (setErrDetail e s).rhQ16 = s.rhQ16 := rfl
@[simp] theorem setErrDetail_serial (e : ErrCode) (s : State) : (setErrDetail e s).serial = s.serial := rfl
@[simp] theorem setErrDetail_inbox (e : ErrCode) (s : State) : (setErrDetail e s).inbox = s.inbox := rfl
@[simp] theorem setErrDetail_sent (e : ErrCode) (s : State) : (setErrDetail e s).sent = s.sent := rfl
@[simp] theorem setErrDetail_draws (e : ErrCode) (s : State) : (setErrDetail e s).draws = s.draws := rfl

/-! ### `setStatus` -/

@[simp] theorem setStatus_cfg (k : StatusKind) (s : State) : (setStatus k s).cfg = s.cfg := rfl
@[simp] theorem setStatus_scratch (k : StatusKind) (s : State) : (setStatus k s).scratch = s.scratch := rfl
@[simp] theorem setStatus_devh (k : StatusKind) (s : State) : (setStatus k s).devh = s.devh := rfl
@[simp] theorem setStatus_ready (k : StatusKind) (s : State) : (setStatus k s).ready = s.ready := rfl
@[simp] theorem setStatus_phase (k : StatusKind) (s : State) : (setStatus k s).phase = s.phase := rfl
@[simp] theorem setStatus_opr (k : StatusKind) (s : State) : (setStatus k s).opr = s.opr := rfl
@[simp] theorem setStatus_tmo (k : StatusKind) (s : State) : (setStatus k s).tmo = s.tmo := rfl
@[simp] theorem setStatus_status (k : StatusKind) (s : State) : (setStatus k s).status = s.cfg.codes.number k := rfl
@[simp] theorem setStatus_errdetail (k : StatusKind) (s : State) : (setStatus k s).errdetail = s.errdetail := rfl
@[simp] theorem setStatus_crcfail (k : StatusKind) (s : State) : (setStatus k s).crcfail = s.crcfail := rfl
@[simp] theorem setStatus_resKind (k : StatusKind) (s : State) : (setStatus k s).resKind = s.resKind := rfl
@[simp] theorem setStatus_tempQ16 (k : StatusKind) (s : State) : (setStatus k s).tempQ16 = s.tempQ16 := rfl
@[simp] theorem setStatus_rhQ16 (k : StatusKind) (s : State) : (setStatus k s).rhQ16 = s.rhQ16 := rfl
@[simp] theorem setStatus_serial (k : StatusKind) (s : State) : (setStatus k s).serial = s.serial := rfl
@[simp] theorem setStatus_inbox (k : StatusKind) (s : State) : (setStatus k s).inbox = s.inbox := rfl
@[simp] theorem setStatus_sent (k : StatusKind) (s : State) : (setStatus k s).sent = s.sent := rfl
@[simp] theorem setStatus_draws (k : StatusKind) (s : State) : (setStatus k s).draws = s.draws := rfl

/-! ### `emit` -/

@[simp] theorem emit_cfg (x : Output) (s : State) : (emit x s).cfg = s.cfg := rfl
@[simp] theorem emit_scratch (x : Output) (s : State) : (emit x s).scratch = s.scratch := rfl
@[simp] theorem emit_devh (x : Output) (s : State) : (emit x s).devh = s.devh := rfl
@[simp] theorem emit_ready (x : Output) (s : State) : (emit x s).ready = s.ready := rfl
@[simp] theorem emit_phase (x : Output) (s : State) : (emit x s).phase = s.phase := rfl
@[simp] theorem emit_opr (x : Output) (s : State) : (emit x s).opr = s.opr := rfl
@[simp] theorem emit_tmo (x : Output) (s : State) : (emit x s).tmo = s.tmo := rfl
@[simp] theorem emit_status (x : Output) (s : State) : (emit x s).status = s.status := rfl
@[simp] theorem emit_errdetail (x : Output) (s : State) : (emit x s).errdetail = s.errdetail := rfl
@[simp] theorem emit_crcfail (x : Output) (s : State) : (emit x s).crcfail = s.crcfail := rfl
@[simp] theorem emit_resKind (x : Output) (s : State) : (emit x s).resKind = s.resKind := rfl
@[simp] theorem emit_tempQ16 (x : Output) (s : State) : (emit x s).tempQ16 = s.tempQ16 := rfl
@[simp] theorem emit_rhQ16 (x : Output) (s : State) : (emit x s).rhQ16 = s.rhQ16 := rfl
@[simp] theorem emit_serial (x : Output) (s : State) : (emit x s).serial = s.serial := rfl
@[simp] theorem emit_inbox (x : Output) (s : State) : (emit x s).inbox = s.inbox := rfl
@[simp] theorem emit_sent (x : Output) (s : State) : (emit x s).sent = s.sent ++ [x] := rfl
@[simp] theorem emit_draws (x : Output) (s : State) : (emit x s).draws = s.draws := rfl

/-! ### `clearResult` -/

@[simp] theorem clearResult_cfg (s : State) : (clearResult s).cfg = s.cfg := rfl
@[simp] theorem clearResult_scratch (s : State) : (clearResult s).scratch = s.scratch := rfl
@[simp] theorem clearResult_devh (s : State) : (clearResult s).devh = s.devh := rfl
@[simp] theorem clearResult_ready (s : State) : (clearResult s).ready = s.ready := rfl
@[simp] theorem clearResult_phase (s : State) : (clearResult s).phase = s.phase := rfl
@[simp] theorem clearResult_opr (s : State) : (clearResult s).opr = s.opr := rfl
@[simp] theorem clearResult_tmo (s : State) : (clearResult s).tmo = s.tmo := rfl
@[simp] theorem clearResult_status (s : State) : (clearResult s).status = s.status := rfl
@[simp] theorem clearResult_errdetail (s : State) : (clearResult s).errdetail = s.errdetail := rfl
@[simp] theorem clearResult_crcfail (s : State) : (clearResult s).crcfail = 0 := rfl
@[simp] theorem clearResult_resKind (s : State) : (clearResult s).resKind = .none := rfl
@[simp] theorem clearResult_tempQ16 (s : State) : (clearResult s).tempQ16 = s.tempQ16 := rfl
@[simp] theorem clearResult_rhQ16 (s : State) : (clearResult s).rhQ16 = s.rhQ16 := rfl
@[simp] theorem clearResult_serial (s : State) : (clearResult s).serial = s.serial := rfl
@[simp] theorem clearResult_inbox (s : State) : (clearResult s).inbox = s.inbox := rfl
@[simp] theorem clearResult_sent (s : State) : (clearResult s).sent = s.sent := rfl
@[simp] theorem clearResult_draws (s : State) : (clearResult s).draws = s.draws := rfl

/-! ### `latch` -/

@[simp] theorem latch_cfg (o : Opr) (t : Timeout) (s : State) : (latch o t s).cfg = s.cfg := rfl
@[simp] theorem latch_scratch (o : Opr) (t : Timeout) (s : State) : (latch o t s).scratch = s.scratch := rfl
@[simp] theorem latch_devh (o : Opr) (t : Timeout) (s : State) : (latch o t s).devh = s.devh := rfl
@[simp] theorem latch_ready (o : Opr) (t : Timeout) (s : State) : (latch o t s).ready = s.ready := rfl
@[simp] theorem latch_phase (o : Opr) (t : Timeout) (s : State) : (latch o t s).phase = s.phase := rfl
@[simp] theorem latch_opr (o : Opr) (t : Timeout) (s : State) : (latch o t s).opr = o := rfl
@[simp] theorem latch_tmo (o : Opr) (t : Timeout) (s : State) : (latch o t s).tmo = t := rfl
@[simp] theorem latch_status (o : Opr) (t : Timeout) (s : State) : (latch o t s).status = s.status := rfl
@[simp] theorem latch_errdetail (o : Opr) (t : Timeout) (s : State) : (latch o t s).errdetail = s.errdetail := rfl
@[simp] theorem latch_crcfail (o : Opr) (t : Timeout) (s : State) : (latch o t s).crcfail = s.crcfail := rfl
@[simp] theorem latch_resKind (o : Opr) (t : Timeout) (s : State) : (latch o t s).resKind = s.resKind := rfl
@[simp] theorem latch_tempQ16 (o : Opr) (t : Timeout) (s : State) : (latch o t s).tempQ16 = s.tempQ16 := rfl
@[simp] theorem latch_rhQ16 (o : Opr) (t : Timeout) (s : State) : (latch o t s).rhQ16 = s.rhQ16 := rfl
@[simp] theorem latch_serial (o : Opr) (t : Timeout) (s : State) : (latch o t s).serial = s.serial := rfl
@[simp] theorem latch_inbox (o : Opr) (t : Timeout) (s : State) : (latch o t s).inbox = s.inbox := rfl
@[simp] theorem latch_sent (o : Opr) (t : Timeout) (s : State) : (latch o t s).sent = s.sent := rfl
@[simp] theorem latch_draws (o : Opr) (t : Timeout) (s : State) : (latch o t s).draws = s.draws := rfl

/-! ### `finish` -/

@[simp] theorem finish_cfg (k : StatusKind) (r : ResKind) (s : State) : (finish k r s).cfg = s.cfg := rfl
@[simp] theorem finish_scratch (k : StatusKind) (r : ResKind) (s : State) : (finish k r s).scratch = s.scratch := rfl
@[simp] theorem finish_devh (k : StatusKind) (r : ResKind) (s : State) : (finish k r s).devh = s.devh := rfl
@[simp] theorem finish_ready (k : StatusKind) (r : ResKind) (s : State) : (finish k r s).ready = s.ready := rfl
@[simp] theorem finish_phase (k : StatusKind) (r : ResKind) (s : State) : (finish k r s).phase = .idle := rfl
@[simp] theorem finish_opr (k : StatusKind) (r : ResKind) (s : State) : (finish k r s).opr = s.opr := rfl
@[simp] theorem finish_tmo (k : StatusKind) (r : ResKind) (s : State) : (finish k r s).tmo = s.tmo := rfl
@[simp] theorem finish_status (k : StatusKind) (r : ResKind) (s : State) :
    (finish k r s).status =
      s.cfg.codes.number k := rfl
@[simp] theorem finish_errdetail (k : StatusKind) (r : ResKind) (s : State) :
    (finish k r s).errdetail =
      s.errdetail := rfl
@[simp] theorem finish_crcfail (k : StatusKind) (r : ResKind) (s : State) : (finish k r s).crcfail = s.crcfail := rfl
@[simp] theorem finish_resKind (k : StatusKind) (r : ResKind) (s : State) : (finish k r s).resKind = r := rfl
@[simp] theorem finish_tempQ16 (k : StatusKind) (r : ResKind) (s : State) : (finish k r s).tempQ16 = s.tempQ16 := rfl
@[simp] theorem finish_rhQ16 (k : StatusKind) (r : ResKind) (s : State) : (finish k r s).rhQ16 = s.rhQ16 := rfl
@[simp] theorem finish_serial (k : StatusKind) (r : ResKind) (s : State) : (finish k r s).serial = s.serial := rfl
@[simp] theorem finish_inbox (k : StatusKind) (r : ResKind) (s : State) : (finish k r s).inbox = s.inbox := rfl
@[simp] theorem finish_sent (k : StatusKind) (r : ResKind) (s : State) : (finish k r s).sent = s.sent := rfl
@[simp] theorem finish_draws (k : StatusKind) (r : ResKind) (s : State) : (finish k r s).draws = s.draws := rfl

/-! ### `raiseWith` -/

@[simp] theorem raiseWith_cfg (k : StatusKind) (e : ErrCode) (s : State) : (raiseWith k e s).cfg = s.cfg := rfl
@[simp] theorem raiseWith_scratch (k : StatusKind) (e : ErrCode) (s : State) :
    (raiseWith k e s).scratch =
      s.scratch := rfl
@[simp] theorem raiseWith_devh (k : StatusKind) (e : ErrCode) (s : State) : (raiseWith k e s).devh = s.devh := rfl
@[simp] theorem raiseWith_ready (k : StatusKind) (e : ErrCode) (s : State) : (raiseWith k e s).ready = s.ready := rfl
@[simp] theorem raiseWith_phase (k : StatusKind) (e : ErrCode) (s : State) : (raiseWith k e s).phase = .idle := rfl
@[simp] theorem raiseWith_opr (k : StatusKind) (e : ErrCode) (s : State) : (raiseWith k e s).opr = s.opr := rfl
@[simp] theorem raiseWith_tmo (k : StatusKind) (e : ErrCode) (s : State) : (raiseWith k e s).tmo = s.tmo := rfl
@[simp] theorem raiseWith_status (k : StatusKind) (e : ErrCode) (s : State) :
    (raiseWith k e s).status =
      s.cfg.codes.number k := rfl
@[simp] theorem raiseWith_errdetail (k : StatusKind) (e : ErrCode) (s : State) :
    (raiseWith k e s).errdetail =
      e := rfl
@[simp] theorem raiseWith_crcfail (k : StatusKind) (e : ErrCode) (s : State) :
    (raiseWith k e s).crcfail =
      s.crcfail := rfl
@[simp] theorem raiseWith_resKind (k : StatusKind) (e : ErrCode) (s : State) :
    (raiseWith k e s).resKind =
      .none := rfl
@[simp] theorem raiseWith_tempQ16 (k : StatusKind) (e : ErrCode) (s : State) :
    (raiseWith k e s).tempQ16 =
      s.tempQ16 := rfl
@[simp] theorem raiseWith_rhQ16 (k : StatusKind) (e : ErrCode) (s : State) : (raiseWith k e s).rhQ16 = s.rhQ16 := rfl
@[simp] theorem raiseWith_serial (k : StatusKind) (e : ErrCode) (s : State) :
    (raiseWith k e s).serial =
      s.serial := rfl
@[simp] theorem raiseWith_inbox (k : StatusKind) (e : ErrCode) (s : State) : (raiseWith k e s).inbox = s.inbox := rfl
@[simp] theorem raiseWith_sent (k : StatusKind) (e : ErrCode) (s : State) :
    (raiseWith k e s).sent =
      s.sent ++ [.rsp ⟨s.cfg.codes.number k, some e, s.crcfail, .none, none, none, none⟩] := rfl
@[simp] theorem raiseWith_draws (k : StatusKind) (e : ErrCode) (s : State) : (raiseWith k e s).draws = s.draws := rfl

/-! ### `loseErrDetail` -/

@[simp] theorem loseErrDetail_cfg (s : State) : (loseErrDetail s).cfg = s.cfg := rfl
@[simp] theorem loseErrDetail_scratch (s : State) : (loseErrDetail s).scratch = s.scratch := rfl
@[simp] theorem loseErrDetail_devh (s : State) : (loseErrDetail s).devh = s.devh := rfl
@[simp] theorem loseErrDetail_ready (s : State) : (loseErrDetail s).ready = s.ready := rfl
@[simp] theorem loseErrDetail_phase (s : State) : (loseErrDetail s).phase = s.phase := rfl
@[simp] theorem loseErrDetail_opr (s : State) : (loseErrDetail s).opr = s.opr := rfl
@[simp] theorem loseErrDetail_tmo (s : State) : (loseErrDetail s).tmo = s.tmo := rfl
@[simp] theorem loseErrDetail_status (s : State) : (loseErrDetail s).status = s.status := rfl
@[simp] theorem loseErrDetail_errdetail (s : State) :
    (loseErrDetail s).errdetail =
      ⟨cutToWidth s.cfg.xerrW (Config.freeToken s.draws)⟩ := rfl
@[simp] theorem loseErrDetail_crcfail (s : State) : (loseErrDetail s).crcfail = s.crcfail := rfl
@[simp] theorem loseErrDetail_resKind (s : State) : (loseErrDetail s).resKind = s.resKind := rfl
@[simp] theorem loseErrDetail_tempQ16 (s : State) : (loseErrDetail s).tempQ16 = s.tempQ16 := rfl
@[simp] theorem loseErrDetail_rhQ16 (s : State) : (loseErrDetail s).rhQ16 = s.rhQ16 := rfl
@[simp] theorem loseErrDetail_serial (s : State) : (loseErrDetail s).serial = s.serial := rfl
@[simp] theorem loseErrDetail_inbox (s : State) : (loseErrDetail s).inbox = s.inbox := rfl
@[simp] theorem loseErrDetail_sent (s : State) : (loseErrDetail s).sent = s.sent := rfl
@[simp] theorem loseErrDetail_draws (s : State) : (loseErrDetail s).draws = s.draws + 1 := rfl

/-! ### `raiseChecksumError` -/

@[simp] theorem raiseChecksumError_cfg (s : State) : (raiseChecksumError s).cfg = s.cfg := rfl
@[simp] theorem raiseChecksumError_scratch (s : State) : (raiseChecksumError s).scratch = s.scratch := rfl
@[simp] theorem raiseChecksumError_devh (s : State) : (raiseChecksumError s).devh = s.devh := rfl
@[simp] theorem raiseChecksumError_ready (s : State) : (raiseChecksumError s).ready = s.ready := rfl
@[simp] theorem raiseChecksumError_phase (s : State) : (raiseChecksumError s).phase = .idle := rfl
@[simp] theorem raiseChecksumError_opr (s : State) : (raiseChecksumError s).opr = s.opr := rfl
@[simp] theorem raiseChecksumError_tmo (s : State) : (raiseChecksumError s).tmo = s.tmo := rfl
@[simp] theorem raiseChecksumError_status (s : State) :
    (raiseChecksumError s).status =
      s.cfg.codes.number .checksumError := rfl
@[simp] theorem raiseChecksumError_errdetail (s : State) :
    (raiseChecksumError s).errdetail =
      ⟨cutToWidth s.cfg.xerrW (Config.freeToken s.draws)⟩ := rfl
@[simp] theorem raiseChecksumError_crcfail (s : State) : (raiseChecksumError s).crcfail = s.crcfail := rfl
@[simp] theorem raiseChecksumError_resKind (s : State) : (raiseChecksumError s).resKind = .none := rfl
@[simp] theorem raiseChecksumError_tempQ16 (s : State) : (raiseChecksumError s).tempQ16 = s.tempQ16 := rfl
@[simp] theorem raiseChecksumError_rhQ16 (s : State) : (raiseChecksumError s).rhQ16 = s.rhQ16 := rfl
@[simp] theorem raiseChecksumError_serial (s : State) : (raiseChecksumError s).serial = s.serial := rfl
@[simp] theorem raiseChecksumError_inbox (s : State) : (raiseChecksumError s).inbox = s.inbox := rfl
@[simp] theorem raiseChecksumError_sent (s : State) :
    (raiseChecksumError s).sent =
      s.sent ++ [.rsp ⟨s.cfg.codes.number .checksumError, none, s.crcfail, .none, none, none, none⟩] := rfl
@[simp] theorem raiseChecksumError_draws (s : State) : (raiseChecksumError s).draws = s.draws + 1 := rfl

/-! ### `finishOk` -/

@[simp] theorem finishOk_cfg (r : ResKind) (s : State) : (finishOk r s).cfg = s.cfg := rfl
@[simp] theorem finishOk_scratch (r : ResKind) (s : State) : (finishOk r s).scratch = s.scratch := rfl
@[simp] theorem finishOk_devh (r : ResKind) (s : State) : (finishOk r s).devh = s.devh := rfl
@[simp] theorem finishOk_ready (r : ResKind) (s : State) : (finishOk r s).ready = s.ready := rfl
@[simp] theorem finishOk_phase (r : ResKind) (s : State) : (finishOk r s).phase = .idle := rfl
@[simp] theorem finishOk_opr (r : ResKind) (s : State) : (finishOk r s).opr = s.opr := rfl
@[simp] theorem finishOk_tmo (r : ResKind) (s : State) : (finishOk r s).tmo = s.tmo := rfl
@[simp] theorem finishOk_status (r : ResKind) (s : State) : (finishOk r s).status = s.cfg.codes.number .ok := rfl
@[simp] theorem finishOk_errdetail (r : ResKind) (s : State) : (finishOk r s).errdetail = s.errdetail := rfl
@[simp] theorem finishOk_crcfail (r : ResKind) (s : State) : (finishOk r s).crcfail = s.crcfail := rfl
@[simp] theorem finishOk_resKind (r : ResKind) (s : State) : (finishOk r s).resKind = r := rfl
@[simp] theorem finishOk_tempQ16 (r : ResKind) (s : State) : (finishOk r s).tempQ16 = s.tempQ16 := rfl
@[simp] theorem finishOk_rhQ16 (r : ResKind) (s : State) : (finishOk r s).rhQ16 = s.rhQ16 := rfl
@[simp] theorem finishOk_serial (r : ResKind) (s : State) : (finishOk r s).serial = s.serial := rfl
@[simp] theorem finishOk_inbox (r : ResKind) (s : State) : (finishOk r s).inbox = s.inbox := rfl
@[simp] theorem finishOk_sent (r : ResKind) (s : State) :
    (finishOk r s).sent =
      s.sent ++ [.rsp (responseOf none (finish .ok r s))] := rfl
@[simp] theorem finishOk_draws (r : ResKind) (s : State) : (finishOk r s).draws = s.draws := rfl

/-! ### `refuseRequest` -/

@[simp] theorem refuseRequest_cfg (s : State) : (refuseRequest s).cfg = s.cfg := rfl
@[simp] theorem refuseRequest_scratch (s : State) : (refuseRequest s).scratch = s.scratch := rfl
@[simp] theorem refuseRequest_devh (s : State) : (refuseRequest s).devh = s.devh := rfl
@[simp] theorem refuseRequest_ready (s : State) : (refuseRequest s).ready = s.ready := rfl
@[simp] theorem refuseRequest_phase (s : State) : (refuseRequest s).phase = s.phase := rfl
@[simp] theorem refuseRequest_opr (s : State) : (refuseRequest s).opr = s.opr := rfl
@[simp] theorem refuseRequest_tmo (s : State) : (refuseRequest s).tmo = s.tmo := rfl
@[simp] theorem refuseRequest_status (s : State) :
    (refuseRequest s).status =
      s.cfg.codes.number .illegalRequest := rfl
@[simp] theorem refuseRequest_errdetail (s : State) : (refuseRequest s).errdetail = s.errdetail := rfl
@[simp] theorem refuseRequest_crcfail (s : State) : (refuseRequest s).crcfail = s.crcfail := rfl
@[simp] theorem refuseRequest_resKind (s : State) : (refuseRequest s).resKind = s.resKind := rfl
@[simp] theorem refuseRequest_tempQ16 (s : State) : (refuseRequest s).tempQ16 = s.tempQ16 := rfl
@[simp] theorem refuseRequest_rhQ16 (s : State) : (refuseRequest s).rhQ16 = s.rhQ16 := rfl
@[simp] theorem refuseRequest_serial (s : State) : (refuseRequest s).serial = s.serial := rfl
@[simp] theorem refuseRequest_inbox (s : State) : (refuseRequest s).inbox = s.inbox := rfl
@[simp] theorem refuseRequest_sent (s : State) :
    (refuseRequest s).sent =
      s.sent ++ [.rsp (responseOf none (setStatus .illegalRequest s))] := rfl
@[simp] theorem refuseRequest_draws (s : State) : (refuseRequest s).draws = s.draws := rfl

/-! ### `loseScratch` -/

@[simp] theorem loseScratch_cfg (s : State) : (loseScratch s).cfg = s.cfg := rfl
@[simp] theorem loseScratch_scratch (s : State) :
    (loseScratch s).scratch =
      Memory.unspecified s.cfg.wire.scratchLen s.draws := rfl
@[simp] theorem loseScratch_devh (s : State) : (loseScratch s).devh = s.devh := rfl
@[simp] theorem loseScratch_ready (s : State) : (loseScratch s).ready = s.ready := rfl
@[simp] theorem loseScratch_phase (s : State) : (loseScratch s).phase = s.phase := rfl
@[simp] theorem loseScratch_opr (s : State) : (loseScratch s).opr = s.opr := rfl
@[simp] theorem loseScratch_tmo (s : State) : (loseScratch s).tmo = s.tmo := rfl
@[simp] theorem loseScratch_status (s : State) : (loseScratch s).status = s.status := rfl
@[simp] theorem loseScratch_errdetail (s : State) : (loseScratch s).errdetail = s.errdetail := rfl
@[simp] theorem loseScratch_crcfail (s : State) : (loseScratch s).crcfail = s.crcfail := rfl
@[simp] theorem loseScratch_resKind (s : State) : (loseScratch s).resKind = s.resKind := rfl
@[simp] theorem loseScratch_tempQ16 (s : State) : (loseScratch s).tempQ16 = s.tempQ16 := rfl
@[simp] theorem loseScratch_rhQ16 (s : State) : (loseScratch s).rhQ16 = s.rhQ16 := rfl
@[simp] theorem loseScratch_serial (s : State) : (loseScratch s).serial = s.serial := rfl
@[simp] theorem loseScratch_inbox (s : State) : (loseScratch s).inbox = s.inbox := rfl
@[simp] theorem loseScratch_sent (s : State) : (loseScratch s).sent = s.sent := rfl
@[simp] theorem loseScratch_draws (s : State) : (loseScratch s).draws = s.draws + s.cfg.wire.scratchLen := rfl

/-! ### `applyReset`: the fields R42 gives a value, the widths of the free results, and what the edge leaves alone -/

@[simp] theorem applyReset_cfg (s : State) : (applyReset s).cfg = s.cfg := rfl
@[simp] theorem applyReset_ready (s : State) : (applyReset s).ready = false := rfl
@[simp] theorem applyReset_phase (s : State) : (applyReset s).phase = .idle := rfl
@[simp] theorem applyReset_status (s : State) : (applyReset s).status = s.cfg.codes.number .ok := rfl
@[simp] theorem applyReset_crcfail (s : State) : (applyReset s).crcfail = 0 := rfl
@[simp] theorem applyReset_resKind (s : State) : (applyReset s).resKind = .none := rfl
@[simp] theorem applyReset_tempQ16_width (s : State) : (applyReset s).tempQ16.width = s.cfg.conv.resultWidth := rfl
@[simp] theorem applyReset_rhQ16_width (s : State) : (applyReset s).rhQ16.width = s.cfg.conv.resultWidth := rfl
@[simp] theorem applyReset_inbox (s : State) : (applyReset s).inbox = s.inbox := rfl
@[simp] theorem applyReset_sent (s : State) : (applyReset s).sent = s.sent := rfl

/-! ### The end of a run -/

/-- A run is over in an idle block to which no message still to come is a request (R242). -/
theorem runOver_iff (s : State) : s.runOver = true ↔ s.phase = .idle ∧ ∀ m ∈ s.inbox, m.isRequest = false := by
  simp [State.runOver]

/-! ### The result a response carries -/

@[simp] theorem responseOf_status (d : Option ErrCode) (s : State) : (responseOf d s).status = s.status := rfl
@[simp] theorem responseOf_errdetail (d : Option ErrCode) (s : State) : (responseOf d s).errdetail = d := rfl
@[simp] theorem responseOf_crcfail (d : Option ErrCode) (s : State) : (responseOf d s).crcfail = s.crcfail := rfl
@[simp] theorem responseOf_resKind (d : Option ErrCode) (s : State) : (responseOf d s).resKind = s.resKind := rfl
@[simp] theorem responseOf_tempQ16 (d : Option ErrCode) (s : State) : (responseOf d s).tempQ16 = s.validTemp := rfl
@[simp] theorem responseOf_rhQ16 (d : Option ErrCode) (s : State) : (responseOf d s).rhQ16 = s.validRh := rfl
@[simp] theorem responseOf_serial (d : Option ErrCode) (s : State) : (responseOf d s).serial = s.validSerial := rfl

end Sys2Proof.Machine
end

