-- ==== Sys2Proof/Laws/Ops.lean ====
section
/-! SUPPORT. What each shared operation can do, said once: the conforming parameters, the checked accesses, staging,
accepting a request, and the common part of a successful transfer. -/

namespace Sys2Proof.Machine

/-! ### Conforming parameters (R7) -/

theorem conforms_wire {c : Config} (h : c.conforms = true) : c.wire = {} := by
  simp only [Config.conforms, Bool.and_eq_true, decide_eq_true_eq] at h
  exact h.1.1.1.1.1.1

theorem conforms_codes {c : Config} (h : c.conforms = true) : c.codes = {} := by
  simp only [Config.conforms, Bool.and_eq_true, decide_eq_true_eq] at h
  exact h.1.1.2

theorem conforms_opSel {c : Config} (h : c.conforms = true) : c.opSel = {} := by
  simp only [Config.conforms, Bool.and_eq_true, decide_eq_true_eq] at h
  exact h.1.2

/-- A conforming converter differs from the default one in its two optional clamps only. -/
theorem conforms_conv {c : Config} (h : c.conforms = true) :
    c.conv = { ({} : ConvParams) with tMin := c.conv.tMin, rhMax := c.conv.rhMax } := by
  simp only [Config.conforms, Bool.and_eq_true, decide_eq_true_eq] at h
  rw [← h.1.1.1.1.2]

theorem conforms_clamps {c : Config} (h : c.conforms = true) : c.conv.clampsDoNotCross = true := by
  simp only [Config.conforms, Bool.and_eq_true] at h
  exact h.1.1.1.2

theorem conforms_scratchLen {c : Config} (h : c.conforms = true) : c.wire.scratchLen = 6 := by
  rw [conforms_wire h]

/-! ### Checked accesses -/

theorem readByte_ok {s : State} {a : Nat} (h : a < s.cfg.wire.scratchLen) :
    readByte s a = .ok (Memory.read s.scratch a) := by
  simp [readByte, h]

theorem readWord_ok {s : State} {a : Nat} (h : a + 1 < s.cfg.wire.scratchLen) :
    readWord s a = .ok (Memory.read s.scratch a ++ Memory.read s.scratch (a + 1)) := by
  simp [readWord, readByte_ok h, readByte_ok (Nat.lt_of_succ_lt h)]

theorem writeByte_ok {s : State} {a : Nat} (v : Byte) (h : a < s.cfg.wire.scratchLen) :
    writeByte s a v = .ok (setScratch (Memory.write s.scratch a v) s) := by
  simp [writeByte, h]

/-- The scratch buffer after a response has landed (R62). -/
def storeResponse (r : Rsp48) (m : Memory) : Memory :=
  Memory.write (Memory.write (Memory.write (Memory.write (Memory.write (Memory.write m 0 r.b0) 1 r.b1) 2 r.b2) 3 r.b3)
    4 r.b4) 5 r.b5

theorem writeBytes_response (s : State) (r : Rsp48) (h : s.cfg.wire.scratchLen = 6) :
    writeBytes s 0 r.bytes = .ok (setScratch (storeResponse r s.scratch) s) := by
  simp [Rsp48.bytes, writeBytes, writeByte, h, storeResponse, setScratch]

/-- Each offset of a canonical scratch buffer reads as the response byte that landed there. -/
theorem read_storeResponse (r : Rsp48) (m : Memory) (h : Memory.wf 6 m = true) :
    Memory.read (storeResponse r m) 0 = r.b0 ∧ Memory.read (storeResponse r m) 1 = r.b1 ∧
    Memory.read (storeResponse r m) 2 = r.b2 ∧ Memory.read (storeResponse r m) 3 = r.b3 ∧
    Memory.read (storeResponse r m) 4 = r.b4 ∧ Memory.read (storeResponse r m) 5 = r.b5 := by
  have w0 := Memory.wf_write m 6 0 r.b0 h (by omega)
  have w1 := Memory.wf_write _ 6 1 r.b1 w0 (by omega)
  have w2 := Memory.wf_write _ 6 2 r.b2 w1 (by omega)
  have w3 := Memory.wf_write _ 6 3 r.b3 w2 (by omega)
  have w4 := Memory.wf_write _ 6 4 r.b4 w3 (by omega)
  simp only [storeResponse]
  refine ⟨?_, ?_, ?_, ?_, ?_, ?_⟩
  · simp [Memory.read_write_other, Memory.read_write_same m 0 6 0 r.b0 h]
  · simp [Memory.read_write_other, Memory.read_write_same _ 0 6 1 r.b1 w0]
  · simp [Memory.read_write_other, Memory.read_write_same _ 0 6 2 r.b2 w1]
  · simp [Memory.read_write_other, Memory.read_write_same _ 0 6 3 r.b3 w2]
  · simp [Memory.read_write_other, Memory.read_write_same _ 0 6 4 r.b4 w3]
  · exact Memory.read_write_same _ 0 6 5 r.b5 w4

/-! ### Staging and accepting -/

/-- The state a staged command leaves (R103). -/
def staged (c : Command) (s : State) : State :=
  emit (.xfer s.devh [Command.opcode s.cfg c] s.cfg.wire.respLen s.tmo)
    (setPhase .xferWait (setScratch (Memory.write s.scratch 0 (Command.opcode s.cfg c)) s))

/-- Staging in a conforming block (R103). -/
theorem stage_ok {s : State} (c : Command) (h : s.cfg.conforms = true) :
    stage c s = .ok (staged c s) := by
  have hw := conforms_wire h
  simp [stage, staged, writeByte, setScratch, setPhase, hw]

/-- A request is refused by name while an operation is in flight; in an idle block it starts its operation or is
answered `IllegalRequest`. -/
theorem acceptRequest_cases (legal : Bool) (start : State → Except Fault State) (s : State) :
    (s.phase = .idle ∧ legal = true ∧ acceptRequest legal start s = outcomeOf (start (clearResult s))) ∨
    (s.phase = .idle ∧ legal = false ∧ acceptRequest legal start s = .next (refuseRequest (clearResult s))) ∨
    (s.phase ≠ .idle ∧ acceptRequest legal start s = .refused .requestWhileBusy) := by
  unfold acceptRequest
  cases s.phase <;> cases legal <;> simp

/-! ### The answers -/

/-- The common part of a successful transfer in a conforming block whose scratch buffer is canonical (R179). -/
theorem takeResponse_ok {s : State} (r : Rsp48) (h : s.cfg.conforms = true)
    (hm : Memory.wf s.cfg.wire.scratchLen s.scratch = true) :
    takeResponse r s = .ok (finishExchange (wordsOf r)
      (setCrcfail ((wordsOf r).crcfail s.cfg.crc) (setScratch (storeResponse r s.scratch) s))) := by
  have hl := conforms_scratchLen h
  rw [hl] at hm
  obtain ⟨r0, r1, r2, r3, r4, r5⟩ := read_storeResponse r s.scratch hm
  simp [takeResponse, writeBytes_response s r hl, deserialize, readWord, readByte, hl, r0, r1, r2, r3, r4, r5, wordsOf]

/-- How an exchange can end (R164, R168, R174): with a checksum error, or with success in the one way the operation in
flight has. -/
theorem finishExchange_cases (w : Words) (s : State) :
    (finishExchange w s = raiseChecksumError s ∧ w.pass s.cfg.crc = false ∧
      (s.opr = .init → s.cfg.initCrcFatal = true)) ∨
    (s.opr = .init ∧ (w.pass s.cfg.crc = true ∨ s.cfg.initCrcFatal = false) ∧
      finishExchange w s = finishOk .none (setReady s)) ∨
    (s.opr = .meas ∧ w.pass s.cfg.crc = true ∧
      finishExchange w s = finishOk .measurement
        (setMeasurement (convertTemp s.cfg.conv (tempTicks s.cfg.conv.wordOrder w))
          (convertRh s.cfg.conv (humTicks s.cfg.conv.wordOrder w)) s)) ∨
    (s.opr = .rdsn ∧ w.pass s.cfg.crc = true ∧
      finishExchange w s = finishOk .serial (setSerial (assembleSerial w.word0 w.word1) s)) := by
  cases hp : w.pass s.cfg.crc <;> cases hf : s.cfg.initCrcFatal <;> cases ho : s.opr <;>
    simp [finishExchange, finishInit, finishMeasurement, finishSerial, hp, hf, ho]

end Sys2Proof.Machine
end

