-- ==== Sys2Proof/Laws/PerInstr.lean ====
section
/-! SUPPORT. The wire form of each instruction: the encoder gives the bits of its row of spec/opcode_table.json. -/

namespace Sys2Proof.Laws.WireForm

/-- The bits spec/opcode_table.json gives the instruction's row: how many, and their value. -/
def row (i : Instr) : Nat × Nat :=
  match i with
  | .measHp => (8, 0xFD)
  | .readSn => (8, 0x89)
  | .initializeDevice _ _ _ => (2, 0)
  | .readMeasurement _ => (2, 1)
  | .readSerialNumber _ => (2, 2)

/-- In every conforming block the encoder gives the table's bits. -/
def Statement (i : Instr) : Prop := ∀ cfg : Config, cfg.conforms = true → (encode cfg i).tableWord = row i

theorem wire_of_conforms {c : Config} (h : c.conforms = true) : c.wire = {} ∧ c.opSel = {} := by
  simp only [Config.conforms, Bool.and_eq_true, decide_eq_true_eq] at h
  exact ⟨h.1.1.1.1.1.1, h.1.2⟩

theorem measHp : Statement .measHp := by
  intro cfg h
  simp [encode, Command.opcode, Frame.tableWord, row, wire_of_conforms h]

theorem readSn : Statement .readSn := by
  intro cfg h
  simp [encode, Command.opcode, Frame.tableWord, row, wire_of_conforms h]

theorem initializeDevice (bus : BusHandle) (speed : Nat) (timeout : Timeout) :
    Statement (.initializeDevice bus speed timeout) := by
  intro cfg h
  simp [encode, Frame.tableWord, row, wire_of_conforms h]

theorem readMeasurement (timeout : Timeout) : Statement (.readMeasurement timeout) := by
  intro cfg h
  simp [encode, Frame.tableWord, row, wire_of_conforms h]

theorem readSerialNumber (timeout : Timeout) : Statement (.readSerialNumber timeout) := by
  intro cfg h
  simp [encode, Frame.tableWord, row, wire_of_conforms h]

end Sys2Proof.Laws.WireForm
end

