-- ==== Sys2Proof/Laws/Step.lean ====
section
/-! SUPPORT. What a step can do, said once: the inversion lemmas of staging, of a request, of each answer, and of the
step itself. Each says everything the step's next state can be. -/

namespace Sys2Proof.Machine

/-- The state a started attach leaves (R161). -/
def attaching (bus : BusHandle) (speed : Nat) (timeout : Timeout) (s : State) : State :=
  emit (.attach bus s.cfg.wire.deviceAddr speed) (setPhase .attachWait (latch .init timeout s))

theorem outcomeOf_next {r : Except Fault State} {t : State} (h : outcomeOf r = .next t) : r = .ok t := by
  cases r <;> simp_all [outcomeOf]

theorem stage_cases {c : Command} {s t : State} (h : stage c s = .ok t) : t = staged c s := by
  simp only [stage, writeByte] at h
  split at h
  · simp at h
  · rename_i s1 hs
    split at hs
    · cases hs
      cases h
      rfl
    · cases hs

theorem startExchange_cases {o : Opr} {timeout : Timeout} {s t : State} (h : startExchange o timeout s = .ok t) :
    t = staged o.command (latch o timeout s) :=
  stage_cases h

theorem startAttach_eq (bus : BusHandle) (speed : Nat) (timeout : Timeout) (s : State) :
    startAttach bus speed timeout s = .ok (attaching bus speed timeout s) := rfl

/-- A request that has a next state finds the block idle: it starts `initialize`, or one of the reads, or is
answered `IllegalRequest`. -/
theorem onRequest_cases {op : BitVec 2} {bus : BusHandle} {speed : Nat} {timeout : Timeout} {s t : State}
    (h : onRequest op bus speed timeout s = .next t) :
    s.phase = .idle ∧
    ((op = s.cfg.opSel.opInit ∧ s.ready = false ∧ t = attaching bus speed timeout (clearResult s)) ∨
     (op ≠ s.cfg.opSel.opInit ∧ op = s.cfg.opSel.opMeas ∧ s.ready = true ∧
        t = staged .measureHighPrecision (latch .meas timeout (clearResult s))) ∨
     (op ≠ s.cfg.opSel.opInit ∧ op ≠ s.cfg.opSel.opMeas ∧ op = s.cfg.opSel.opRdsn ∧ s.ready = true ∧
        t = staged .readSerialNumber (latch .rdsn timeout (clearResult s))) ∨
     ((op = s.cfg.opSel.opInit → s.ready = true) ∧
        (op ≠ s.cfg.opSel.opInit → op = s.cfg.opSel.opMeas ∨ op = s.cfg.opSel.opRdsn → s.ready = false) ∧
        t = refuseRequest (clearResult s))) := by
  simp only [onRequest, decode] at h
  split at h
  · rename_i i hi
    split_ifs at hi with h0 h1 h2
    · cases hi
      rcases acceptRequest_cases (!s.ready) (startAttach bus speed timeout) s with ⟨hp, hr, e⟩ | ⟨hp, hr, e⟩ | ⟨hp, e⟩ <;>
        simp_all [exec, execInitializeDevice, startAttach_eq, outcomeOf]
    · cases hi
      rcases acceptRequest_cases s.ready (startExchange .meas timeout) s with ⟨hp, hr, e⟩ | ⟨hp, hr, e⟩ | ⟨hp, e⟩
      · simp only [exec, execReadMeasurement, e] at h
        have ht := startExchange_cases (outcomeOf_next h)
        exact ⟨hp, .inr (.inl ⟨h0, h1, hr, ht⟩)⟩
      · simp_all [exec, execReadMeasurement]
      · simp_all [exec, execReadMeasurement]
    · cases hi
      rcases acceptRequest_cases s.ready (startExchange .rdsn timeout) s with ⟨hp, hr, e⟩ | ⟨hp, hr, e⟩ | ⟨hp, e⟩
      · simp only [exec, execReadSerialNumber, e] at h
        have ht := startExchange_cases (outcomeOf_next h)
        exact ⟨hp, .inr (.inr (.inl ⟨h0, h1, h2, hr, ht⟩))⟩
      · simp_all [exec, execReadSerialNumber]
      · simp_all [exec, execReadSerialNumber]
  · rename_i i hi
    split_ifs at hi with h0 h1 h2
    rcases acceptRequest_cases false (fun t => .ok t) s with ⟨hp, hr, e⟩ | ⟨hp, hr, e⟩ | ⟨hp, e⟩ <;>
      simp_all [reservedRequest]

/-- The common part of a successful transfer, wherever it does not fault (R179). -/
theorem takeResponse_cases {r : Rsp48} {s t : State} (h : takeResponse r s = .ok t) :
    ∃ (w : Words) (m : Memory),
      t = finishExchange w (setCrcfail (w.crcfail s.cfg.crc) (setScratch m s)) := by
  have key : ∀ (bs : List Byte) (a : Nat) (s s1 : State), writeBytes s a bs = .ok s1 → ∃ m, s1 = setScratch m s := by
    intro bs
    induction bs with
    | nil => intro a s s1 e; cases e; exact ⟨s.scratch, rfl⟩
    | cons b rest ih =>
      intro a s s1 e
      simp only [writeBytes] at e
      split at e
      · cases e
      · rename_i s2 hs
        obtain ⟨m, rfl⟩ := ih _ _ _ e
        simp only [writeByte] at hs
        split at hs
        · cases hs; exact ⟨m, rfl⟩
        · cases hs
  simp only [takeResponse] at h
  split at h
  · cases h
  · rename_i s1 hs
    obtain ⟨m, rfl⟩ := key _ _ _ _ hs
    split at h
    · cases h
    · rename_i w hw
      cases h
      exact ⟨w, m, rfl⟩

/-- What the step that takes a message can be. -/
theorem takeInput_cases {m : Input} {s t : State} (h : takeInput m s = .next t) :
    m.wf s.cfg = true ∧
    match m with
    | .rst => t = applyReset s
    | .req op bus speed timeout => onRequest op bus speed timeout s = .next t
    | .attachOk d => s.phase = .attachWait ∧ t = staged .readSerialNumber (setDevh d s)
    | .attachFailed e => s.phase = .attachWait ∧ t = raiseWith .busAttachError e s
    | .xferOk r => s.phase = .xferWait ∧ takeResponse r s = .ok t
    | .xferFailed e => s.phase = .xferWait ∧ t = raiseWith (transferError s.opr) e (loseScratch s) := by
  simp only [takeInput] at h
  split at h
  · rename_i hw
    refine ⟨hw, ?_⟩
    cases m with
    | rst => cases h; rfl
    | req op bus speed timeout => exact h
    | attachOk d =>
      simp only [onAttachOk] at h
      cases hp : s.phase <;> simp only [hp] at h
      · cases h
      · exact ⟨rfl, stage_cases (outcomeOf_next h)⟩
      · cases h
    | attachFailed e =>
      simp only [onAttachFailed] at h
      cases hp : s.phase <;> simp only [hp] at h <;> cases h
      exact ⟨rfl, rfl⟩
    | xferOk r =>
      simp only [onXferOk] at h
      cases hp : s.phase <;> simp only [hp] at h
      · cases h
      · cases h
      · exact ⟨rfl, outcomeOf_next h⟩
    | xferFailed e =>
      simp only [onXferFailed] at h
      cases hp : s.phase <;> simp only [hp] at h <;> cases h
      exact ⟨rfl, rfl⟩
  · cases h

/-- A step takes the first message of the inbox, or does nothing (R12). -/
theorem step_cases {s t : State} (h : step s = .next t) :
    (s.inbox = [] ∧ t = s) ∨
    ∃ m rest, s.inbox = m :: rest ∧ takeInput m (dequeue rest s) = .next t := by
  simp only [step, advance] at h
  split at h
  · rename_i hi
    cases h
    exact .inl ⟨hi, rfl⟩
  · rename_i m rest hi
    exact .inr ⟨m, rest, hi, h⟩

/-- Everything a step can be, by the message it takes (R178). -/
theorem step_next_cases {s t : State} (h : step s = .next t) :
    (s.inbox = [] ∧ t = s) ∨
    (∃ rest, s.inbox = .rst :: rest ∧ t = applyReset (dequeue rest s)) ∨
    (∃ op bus speed timeout rest, s.inbox = .req op bus speed timeout :: rest ∧
      onRequest op bus speed timeout (dequeue rest s) = .next t) ∨
    (∃ d rest, s.inbox = .attachOk d :: rest ∧ s.phase = .attachWait ∧
      t = staged .readSerialNumber (setDevh d (dequeue rest s))) ∨
    (∃ e rest, s.inbox = .attachFailed e :: rest ∧ s.phase = .attachWait ∧
      t = raiseWith .busAttachError e (dequeue rest s)) ∨
    (∃ r rest, s.inbox = .xferOk r :: rest ∧ s.phase = .xferWait ∧ takeResponse r (dequeue rest s) = .ok t) ∨
    (∃ e rest, s.inbox = .xferFailed e :: rest ∧ s.phase = .xferWait ∧
      t = raiseWith (transferError s.opr) e (loseScratch (dequeue rest s))) := by
  rcases step_cases h with h | ⟨m, rest, hi, h⟩
  · exact .inl h
  · have hm := (takeInput_cases h).2
    right
    cases m with
    | rst => exact .inl ⟨rest, hi, hm⟩
    | req op bus speed timeout => exact .inr (.inl ⟨op, bus, speed, timeout, rest, hi, hm⟩)
    | attachOk d => exact .inr (.inr (.inl ⟨d, rest, hi, hm⟩))
    | attachFailed e => exact .inr (.inr (.inr (.inl ⟨e, rest, hi, hm⟩)))
    | xferOk r => exact .inr (.inr (.inr (.inr (.inl ⟨r, rest, hi, hm⟩))))
    | xferFailed e => exact .inr (.inr (.inr (.inr (.inr ⟨e, rest, hi, hm⟩))))

/-- A successful transfer in a conforming block whose scratch buffer is canonical: the step, with nothing left to
compute but the end of the operation in flight (R179). -/
theorem step_xferOk {s : State} {r : Rsp48} {rest : List Input} (hc : s.cfg.conforms = true)
    (hm : Memory.wf s.cfg.wire.scratchLen s.scratch = true) (hp : s.phase = .xferWait)
    (hi : s.inbox = .xferOk r :: rest) :
    step s = .next (finishExchange (wordsOf r)
      (setCrcfail ((wordsOf r).crcfail s.cfg.crc) (setScratch (storeResponse r s.scratch) (dequeue rest s)))) := by
  have ht := takeResponse_ok (s := dequeue rest s) r hc hm
  simp only [dequeue_cfg, dequeue_scratch] at ht
  simp [step, advance, hi, takeInput, Input.wf, onXferOk, hp, ht, outcomeOf]

/-- A successful transfer wherever it does not fault: the landing and the verdict touch `SCRATCH` and `CRCFAIL`, and
the operation in flight ends in one of its ways (R164, R168, R174, R200, R201). -/
theorem takeResponse_ends {r : Rsp48} {s t : State} (h : takeResponse r s = .ok t) :
    ∃ m v,
      t = raiseChecksumError (setCrcfail v (setScratch m s)) ∨
      (s.opr = .init ∧ t = finishOk .none (setReady (setCrcfail v (setScratch m s)))) ∨
      (s.opr = .meas ∧ ∃ a b, t = finishOk .measurement (setMeasurement a b (setCrcfail v (setScratch m s)))) ∨
      (s.opr = .rdsn ∧ ∃ a, t = finishOk .serial (setSerial a (setCrcfail v (setScratch m s)))) := by
  obtain ⟨w, m, rfl⟩ := takeResponse_cases h
  refine ⟨m, w.crcfail s.cfg.crc, ?_⟩
  rcases finishExchange_cases w (setCrcfail (w.crcfail s.cfg.crc) (setScratch m s)) with
    ⟨e, _⟩ | ⟨ho, _, e⟩ | ⟨ho, _, e⟩ | ⟨ho, _, e⟩
  · exact .inl e
  · exact .inr (.inl ⟨ho, e⟩)
  · exact .inr (.inr (.inl ⟨ho, _, _, e⟩))
  · exact .inr (.inr (.inr ⟨ho, _, e⟩))

end Sys2Proof.Machine
end

