-- ==== Sys2Proof/Laws/Traffic.lean ====
section
/-! SUPPORT. The counts of sent messages, one message at a time. -/

namespace Sys2Proof.Machine

theorem attachCount_snoc (out : List Output) (x : Output) :
    attachCount (out ++ [x]) = attachCount out + attachCount [x] := by
  induction out with
  | nil => simp [attachCount]
  | cons y rest ih => cases y <;> (simp only [List.cons_append, attachCount, ih]; try omega)

theorem xferCount_snoc (out : List Output) (x : Output) :
    xferCount (out ++ [x]) = xferCount out + xferCount [x] := by
  induction out with
  | nil => simp [xferCount]
  | cons y rest ih => cases y <;> (simp only [List.cons_append, xferCount, ih]; try omega)

theorem rspCount_snoc (out : List Output) (x : Output) :
    rspCount (out ++ [x]) = rspCount out + rspCount [x] := by
  induction out with
  | nil => simp [rspCount]
  | cons y rest ih => cases y <;> (simp only [List.cons_append, rspCount, ih]; try omega)

end Sys2Proof.Machine
end

