-- ==== Sys2Proof/Laws/Units.lean ====
section
/-! SUPPORT. The small laws of the datapath units: the bytes of a word, the check and the verdict in
terms of the bytes received, and what a result register holds. -/

namespace Sys2Proof.Machine

@[simp] theorem highByte_append (a b : Byte) : highByte (a ++ b) = a := by
  apply BitVec.eq_of_getLsbD_eq
  intro i hi
  have h := BitVec.getLsbD_append (x := a) (y := b) (i := 8 + i)
  simp only [show ¬ 8 + i < 8 by omega, if_false, Nat.add_sub_cancel_left] at h
  simp only [highByte, BitVec.getLsbD_extractLsb', hi, decide_true, Bool.true_and]
  exact h

@[simp] theorem lowByte_append (a b : Byte) : lowByte (a ++ b) = b := by
  apply BitVec.eq_of_getLsbD_eq
  intro i hi
  have h := BitVec.getLsbD_append (x := a) (y := b) (i := i)
  simp only [hi, if_true] at h
  simp only [lowByte, BitVec.getLsbD_extractLsb', hi, decide_true, Bool.true_and, Nat.zero_add]
  exact h

/-- The two checks of a response compare each check byte with the CRC of its own two bytes (R125). -/
theorem pass_wordsOf (f : CrcFunction) (r : Rsp48) :
    (wordsOf r).pass f = true ↔ crc8 f r.b0 r.b1 = r.b2 ∧ crc8 f r.b3 r.b4 = r.b5 := by
  simp [Words.pass, wordOk, wordsOf]

/-- `CRCFAIL` bit by bit (R126). -/
theorem crcfail_bits (f : CrcFunction) (w : Words) :
    (w.crcfail f).getLsbD 0 = !wordOk f w.word0 w.chk0 ∧ (w.crcfail f).getLsbD 1 = !wordOk f w.word1 w.chk1 := by
  simp only [Words.crcfail]
  cases wordOk f w.word0 w.chk0 <;> cases wordOk f w.word1 w.chk1 <;> decide

/-- A response that passes leaves `CRCFAIL` clear. -/
theorem crcfail_of_pass (f : CrcFunction) (w : Words) (h : w.pass f = true) : w.crcfail f = 0 := by
  simp only [Words.pass, Bool.and_eq_true] at h
  simp [Words.crcfail, h.1, h.2]

/-! ### Result registers (R7 `RESULT_WIDTH`, R87) -/

@[simp] theorem ofInt_width (w : Nat) (v : Int) : (ResultWord.ofInt w v).width = w := rfl

@[simp] theorem convertTemp_width (c : ConvParams) (t : Word16) : (convertTemp c t).width = c.resultWidth := rfl

@[simp] theorem convertRh_width (c : ConvParams) (h : Word16) : (convertRh c h).width = c.resultWidth := rfl

/-- A register wide enough for an exact result holds it (R143). -/
theorem toInt_ofInt (w : Nat) (v : Int) (lo : -2 ^ w ≤ v) (hi : v < 2 ^ w) : (ResultWord.ofInt (w + 1) v).toInt = v := by
  simp only [ResultWord.ofInt, ResultWord.toInt, BitVec.toInt_ofInt]
  apply Int.bmod_eq_of_le <;> push_cast <;> rw [pow_succ] <;> omega

end Sys2Proof.Machine
end

