-- ==== Sys2Proof/Tests/Slice0.lean ====
section
/-! SUPPORT. The model's own tests: the words of the opcode table, the vectors of spec/95_test_vectors.md one step at
a time, what well-formedness refuses, and for each statement a concrete state that meets its hypotheses. Every expected
value is the spec's. -/

open Sys2Proof Sys2Proof.Machine

namespace Sys2Proof.Tests

/-! ### Small states -/

/-- The next state, where there is one. -/
def nextOf (o : Host.Outcome State Fault Refusal) : Option State :=
  match o with
  | .next s => some s
  | .fault _ => none
  | .refused _ => none

/-- Why a step was refused, where it was. -/
def refusalOf (o : Host.Outcome State Fault Refusal) : Option Refusal :=
  match o with
  | .next _ => none
  | .fault _ => none
  | .refused r => some r

/-- A conforming block that differs from the default wherever the spec leaves a parameter open. -/
def otherCfg : Config :=
  { crc := .bitSerial { poly := 0x07#8, refin := true, refout := true, xorout := 0x55#8 }
    conv := { tMin := some (-40), rhMax := some 100 }
    initCrcFatal := true
    bushW := some 8
    devhW := some 8
    xerrW := some 8 }

/-- A block in a given phase, with the messages still to arrive. -/
def block (ready : Bool) (phase : Phase) (opr : Opr) (inbox : List Input) : State :=
  { State.reset with ready := ready, phase := phase, opr := opr, inbox := inbox }

/-- The same with the other parameters. -/
def otherBlock (ready : Bool) (phase : Phase) (opr : Opr) (inbox : List Input) : State :=
  { block ready phase opr inbox with cfg := otherCfg }

/-- A block that waits for the six bytes of a read or of the identity exchange, and gets them. -/
def answered (opr : Opr) (r : Rsp48) : State :=
  block (decide (opr ≠ .init)) .xferWait opr [.xferOk r]

/-- Vectors V1, V3 to V6, V9, V12 and E1, E2, E4, E6 of 95_test_vectors.md 2.8. -/
def v1 : Rsp48 := ⟨0x66, 0x66, 0x93, 0x80, 0x00, 0xA2⟩
def v3 : Rsp48 := ⟨0xFF, 0xFF, 0xAC, 0x00, 0x00, 0x81⟩
def v4 : Rsp48 := ⟨0x00, 0x00, 0x81, 0xFF, 0xFF, 0xAC⟩
def v5 : Rsp48 := ⟨0xD4, 0x1D, 0xC9, 0x0C, 0x49, 0x80⟩
def v6 : Rsp48 := ⟨0xD4, 0x1C, 0xF8, 0x0C, 0x4A, 0xD3⟩
def v9 : Rsp48 := ⟨0x12, 0x34, 0x37, 0x56, 0x78, 0x7D⟩
def v12 : Rsp48 := ⟨0x3E, 0xEF, 0xB1, 0x80, 0x00, 0xA2⟩
def e1 : Rsp48 := ⟨0x66, 0x66, 0x92, 0x80, 0x00, 0xA2⟩
def e2 : Rsp48 := ⟨0x66, 0x66, 0x93, 0x80, 0x00, 0x22⟩
def e4 : Rsp48 := ⟨0x66, 0x62, 0x93, 0x80, 0x01, 0xA2⟩
def e6 : Rsp48 := ⟨0xFF, 0xFF, 0xFF, 0xFF, 0xFF, 0xFF⟩

/-! ### Decoding: words written out from spec/opcode_table.json -/

theorem test_decode_measHp : decode Config.default (.cmd8 0b11111101#8) = .ok .measHp := by decide

theorem test_decode_readSn : decode Config.default (.cmd8 0b10001001#8) = .ok .readSn := by decide

theorem test_decode_initialize :
    decode Config.default (.hreq 0b00#2 ⟨5⟩ 100000 .infinite) = .ok (.initializeDevice ⟨5⟩ 100000 .infinite) := by
  decide

theorem test_decode_readMeasurement :
    decode Config.default (.hreq 0b01#2 ⟨5⟩ 7 (.finite 3)) = .ok (.readMeasurement (.finite 3)) := by decide

theorem test_decode_readSerialNumber :
    decode Config.default (.hreq 0b10#2 ⟨5⟩ 7 (.finite 3)) = .ok (.readSerialNumber (.finite 3)) := by decide

/-- 30_encoding.md R90 and the four bytes of 95_test_vectors.md 2.4 that are no command. -/
theorem test_decode_refuses :
    decode Config.default (.hreq 0b11#2 ⟨0⟩ 0 .infinite) = .error (.reservedOp 3) ∧
    decode Config.default (.cmd8 0x00#8) = .error (.notACommand 0x00) ∧
    decode Config.default (.cmd8 0x44#8) = .error (.notACommand 0x44) ∧
    decode Config.default (.cmd8 0x94#8) = .error (.notACommand 0x94) ∧
    decode Config.default (.cmd8 0xFF#8) = .error (.notACommand 0xFF) := by decide

theorem test_decode_table_words :
    decodeTableWord 8 0b11111101 = some .measHp ∧ decodeTableWord 8 0b10001001 = some .readSn ∧
    decodeTableWord 8 0b00000001 = some (.readMeasurement (.finite 0)) ∧ decodeTableWord 2 4 = none ∧
    decodeTableWord 8 0x1FD = none := by decide

theorem test_encode_words :
    (encode Config.default .measHp).tableWord = (8, 0b11111101) ∧
    (encode Config.default .readSn).tableWord = (8, 0b10001001) ∧
    (encode Config.default (Config.default.defaultInitialize ⟨9⟩)) = .hreq 0b00#2 ⟨9⟩ 100000 .infinite ∧
    (encode Config.default (.readMeasurement .infinite)).tableWord = (2, 0b01) ∧
    (encode Config.default (.readSerialNumber .infinite)).tableWord = (2, 0b10) := by decide

/-- R83 and R93: the first byte on the wire stands in the high bits. -/
theorem test_response_bits : Rsp48.ofBits 0x12343756787D#48 = v9 ∧ v9.toBits = 0x12343756787D#48 := by decide

/-! ### Well-formedness refuses -/

/-- A bus handle of 8 bits (R38): 255 fits, 256 does not. -/
theorem test_wf_bus_handle :
    Instr.wf otherCfg (.initializeDevice ⟨255⟩ 0 .infinite) = true ∧
    Instr.wf otherCfg (.initializeDevice ⟨256⟩ 0 .infinite) = false ∧
    Instr.wf Config.default (.initializeDevice ⟨256⟩ 0 .infinite) = true := by decide

/-- A message whose opaque operand does not fit its port is refused (R38, R40, D12). -/
theorem test_ill_formed_messages :
    refusalOf (step (otherBlock false .idle .init [.req 0 ⟨256⟩ 100000 .infinite])) = some .illFormedMessage ∧
    refusalOf (step (otherBlock false .attachWait .init [.attachOk ⟨256⟩])) = some .illFormedMessage ∧
    refusalOf (step (otherBlock false .attachWait .init [.attachFailed ⟨256⟩])) = some .illFormedMessage ∧
    refusalOf (step (otherBlock true .xferWait .meas [.xferFailed ⟨256⟩])) = some .illFormedMessage := by decide

/-- R7: an opcode of another protocol, crossed clamps or another seed make no block of this spec. -/
theorem test_parameters_refused :
    Config.conforms { wire := { opcMeasHp := 0x24#8 } } = false ∧
    Config.conforms { conv := { tMin := some 101 } } = false ∧
    Config.conforms { conv := { rhMax := some (-1) } } = false ∧
    Config.conforms { crc := .bitSerial { init := 0x00#8 } } = false := by decide

/-! ### The CRC: 42_crc8_validator.md R123, R133; 95_test_vectors.md 2.1, 2.3 -/

theorem test_crc_values :
    crc8 (.bitSerial {}) 0xBE 0xEF = 0x92#8 ∧ crc8 (.bitSerial {}) 0x00 0x00 = 0x81#8 ∧
    crc8 (.bitSerial {}) 0xFF 0xFF = 0xAC#8 ∧ crc8 (.bitSerial {}) 0xFF 0x00 = 0x00#8 ∧
    crc8 (.bitSerial {}) 0x12 0x34 = 0x37#8 ∧ crc8 (.bitSerial {}) 0x56 0x78 = 0x7D#8 ∧
    crc8 (.bitSerial {}) 0x66 0x66 = 0x93#8 ∧ crc8 (.bitSerial {}) 0x80 0x00 = 0xA2#8 ∧
    crc8 (.bitSerial {}) 0xEF 0xBE = 0xCE#8 ∧ crc8 (.bitSerial {}) 0x34 0x12 = 0x91#8 := by decide +kernel

theorem test_crc_table_entries :
    crcShifts 0x31#8 8 0x00#8 = 0x00#8 ∧ crcShifts 0x31#8 8 0x01#8 = 0x31#8 ∧ crcShifts 0x31#8 8 0x02#8 = 0x62#8 ∧
    crcShifts 0x31#8 8 0x80#8 = 0x7A#8 ∧ crcShifts 0x31#8 8 0xFF#8 = 0xAC#8 := by decide +kernel

/-- The residue form and the linear part (95_test_vectors.md 2.1). -/
theorem test_crc_residue_and_linear_part :
    crcRun 0x31#8 0xFF#8 [0xBE, 0xEF, 0x92] = 0x00#8 ∧ crcRun 0x31#8 0xFF#8 [0xBE, 0xEF, 0x93] = 0x31#8 ∧
    crcRun 0x31#8 0x00#8 [0xBE, 0xEF] = 0x13#8 := by decide +kernel

/-- The verdicts of 95_test_vectors.md 2.3, the undetected pattern of four bits among them. -/
theorem test_group_verdicts :
    groupPasses 0xBEEF92#24 = true ∧ groupPasses 0xBEEF93#24 = false ∧ groupPasses 0xBEEE92#24 = false ∧
    groupPasses 0x3EEFB1#24 = true ∧ flippedBits 24 0x800023#24 = 4 ∧ 0xBEEF92#24 ^^^ 0x800023#24 = 0x3EEFB1#24 ∧
    groupPasses 0x000000#24 = false ∧ groupPasses 0xFFFFFF#24 = false ∧ groupPasses 0xFF0000#24 = true := by decide +kernel

/-! ### The converter: 95_test_vectors.md 2.6, 2.7 -/

/-- The content of a 32-bit result register. -/
def result (bits : BitVec 32) : ResultWord := { width := 32, bits := bits }

theorem test_temperature_rows :
    convertTemp {} 0x0000#16 = result 0xFFD30000 ∧ convertTemp {} 0x0001#16 = result 0xFFD300AF ∧
    convertTemp {} 0x0100#16 = result 0xFFD3AF00 ∧ convertTemp {} 0x41D3#16 = result 0xFFFFFF69 ∧
    convertTemp {} 0x41D4#16 = result 0x00000019 ∧ convertTemp {} 0x8000#16 = result 0x002A8057 ∧
    convertTemp {} 0xD41C#16 = result 0x0063FFB4 ∧ convertTemp {} 0xD41D#16 = result 0x00640000 ∧
    convertTemp {} 0xFFFF#16 = result 0x00640000 := by decide

theorem test_humidity_rows :
    convertRh {} 0x0000#16 = result 0x00000000 ∧ convertRh {} 0x0C49#16 = result 0x00000000 ∧
    convertRh {} 0x0C4A#16 = result 0x00000028 ∧ convertRh {} 0x7FFF#16 = result 0x00387FC1 ∧
    convertRh {} 0xBEEF#16 = result 0x00573B10 ∧ convertRh {} 0xD916#16 = result 0x00640028 ∧
    convertRh {} 0xFFFF#16 = result 0x00770000 := by decide

/-- The optional clamps, for the two bounds of 95_test_vectors.md 2.7. -/
theorem test_optional_clamps :
    convertTemp otherCfg.conv 0x0000#16 = result 0xFFD80000 ∧ convertTemp otherCfg.conv 0x1234#16 = result 0xFFDF7198 ∧
    convertRh otherCfg.conv 0xD916#16 = result 0x00640000 ∧ convertRh otherCfg.conv 0xFFFF#16 = result 0x00640000 ∧
    convertRh otherCfg.conv 0xD915#16 = result 0x0063FFAA := by decide

/-- `RESULT_WIDTH` is a parameter: 25 bits hold every result (43_converter.md R143). -/
theorem test_result_width :
    convertTemp { resultWidth := 25 } 0x0000#16 = ⟨25, 0x1D30000#25⟩ ∧
    (convertTemp { resultWidth := 25 } 0x0000#16).toInt = -2949120 ∧
    (convertTemp { resultWidth := 25 } 0xFFFF#16).toInt = 6553600 ∧
    (convertRh { resultWidth := 25 } 0xFFFF#16).toInt = 7798784 := by decide

theorem test_serial_assembly : assembleSerial 0x1234#16 0x5678#16 = 0x12345678#32 := by decide

/-! ### One exchange: 95_test_vectors.md 2.8 -/

/-- What a read of temperature and humidity leaves. -/
def measured (r : Rsp48) : Option (BitVec 2 × BitVec 3 × ResKind × Option ResultWord × Option ResultWord) :=
  (nextOf (step (answered .meas r))).map (fun t => (t.crcfail, t.status, t.resKind, t.validTemp, t.validRh))

/-- What a read of the serial number leaves. -/
def serialRead (r : Rsp48) : Option (BitVec 2 × BitVec 3 × ResKind × Option Word32) :=
  (nextOf (step (answered .rdsn r))).map (fun t => (t.crcfail, t.status, t.resKind, t.validSerial))

theorem test_measured_v1 : measured v1 = some (0, 0, .measurement, some (result 0x00190000), some (result 0x0038803E)) := by
  decide +kernel

theorem test_measured_v3 : measured v3 = some (0, 0, .measurement, some (result 0x00640000), some (result 0x00000000)) := by
  decide +kernel

theorem test_measured_v4 : measured v4 = some (0, 0, .measurement, some (result 0xFFD30000), some (result 0x00770000)) := by
  decide +kernel

theorem test_measured_v5 : measured v5 = some (0, 0, .measurement, some (result 0x00640000), some (result 0x00000000)) := by
  decide +kernel

theorem test_measured_v6 : measured v6 = some (0, 0, .measurement, some (result 0x0063FFB4), some (result 0x00000028)) := by
  decide +kernel

/-- An undetected corruption of four bits goes through (V12). -/
theorem test_measured_v12 : measured v12 = some (0, 0, .measurement, some (result 0xFFFE058C), some (result 0x0038803E)) := by
  decide +kernel

theorem test_measured_e1_e2_e4 :
    measured e1 = some (0b01, 4, .none, none, none) ∧ measured e2 = some (0b10, 4, .none, none, none) ∧
    measured e4 = some (0b11, 4, .none, none, none) := by
  refine ⟨?_, ?_, ?_⟩ <;> decide +kernel

theorem test_serial_v9 : serialRead v9 = some (0, 0, .serial, some 0x12345678) := by decide +kernel

theorem test_serial_v1 : serialRead v1 = some (0, 0, .serial, some 0x66668000) := by decide +kernel

theorem test_serial_e1 : serialRead e1 = some (0b01, 4, .none, none) := by decide +kernel

/-- P3 step 5c: an identity response that fails both checks leaves the block *Ready*. -/
theorem test_identity_unverified :
    (nextOf (step (answered .init e6))).map (fun t => (t.crcfail, t.ready, t.status, t.resKind, t.phase)) =
      some (0b11, true, 0, .none, .idle) := by decide +kernel

/-- The same with `INIT_CRC_FATAL`. -/
theorem test_identity_check_fatal :
    (nextOf (step { answered .init e6 with cfg := { initCrcFatal := true } })).map
        (fun t => (t.crcfail, t.ready, t.status, t.phase)) =
      some (0b11, false, 4, .idle) := by decide +kernel

/-- The six bytes stand in the scratch buffer (R62). -/
theorem test_response_lands :
    (nextOf (step (answered .meas v1))).map (fun t => t.scratch) =
      some [(0, 0x66), (1, 0x66), (2, 0x93), (3, 0x80), (5, 0xA2)] := by decide +kernel

/-! ### Requests, attach answers, failures: 95_test_vectors.md 2.9 and P1, P3, P5 -/

theorem test_initialize_starts :
    (nextOf (step (block false .idle .meas [.req 0 ⟨3⟩ 100000 .infinite]))).map
        (fun t => (t.phase, t.opr, t.sent)) =
      some (.attachWait, .init, [.attach ⟨3⟩ 0x44 100000]) := by decide +kernel

theorem test_readMeasurement_starts :
    (nextOf (step (block true .idle .init [.req 1 ⟨0⟩ 0 (.finite 8)]))).map
        (fun t => (t.phase, t.opr, t.scratch, t.sent)) =
      some (.xferWait, .meas, [(0, 0xFD)], [.xfer ⟨0⟩ [0xFD] 6 (.finite 8)]) := by decide +kernel

theorem test_readSerialNumber_starts :
    (nextOf (step (block true .idle .init [.req 2 ⟨0⟩ 0 .infinite]))).map
        (fun t => (t.phase, t.opr, t.scratch, t.sent)) =
      some (.xferWait, .rdsn, [(0, 0x89)], [.xfer ⟨0⟩ [0x89] 6 .infinite]) := by decide +kernel

theorem test_attach_accepted :
    (nextOf (step (block false .attachWait .init [.attachOk ⟨7⟩]))).map
        (fun t => (t.phase, t.devh, t.scratch, t.sent)) =
      some (.xferWait, ⟨7⟩, [(0, 0x89)], [.xfer ⟨7⟩ [0x89] 6 .infinite]) := by decide +kernel

theorem test_attach_rejected :
    (nextOf (step (block false .attachWait .init [.attachFailed ⟨11⟩]))).map
        (fun t => (t.status, t.errdetail, t.ready, t.phase, xferCount t.sent)) =
      some (1, ⟨11⟩, false, .idle, 0) := by decide +kernel

theorem test_identity_transfer_failed :
    (nextOf (step (block false .xferWait .init [.xferFailed ⟨12⟩]))).map
        (fun t => (t.status, t.errdetail, t.crcfail, t.resKind, t.ready)) =
      some (2, ⟨12⟩, 0, .none, false) := by decide +kernel

theorem test_read_transfer_failed :
    (nextOf (step (block true .xferWait .meas [.xferFailed ⟨13⟩]))).map
        (fun t => (t.status, t.errdetail, t.crcfail, t.resKind, t.ready)) =
      some (3, ⟨13⟩, 0, .none, true) := by decide +kernel

/-- The status, `READY` and traffic of a refused request. -/
def refusedRequest (ready : Bool) (op : BitVec 2) : Option (BitVec 3 × Bool × Phase × Nat) :=
  (nextOf (step (block ready .idle .init [.req op ⟨0⟩ 0 .infinite]))).map
    (fun t => (t.status, t.ready, t.phase, attachCount t.sent + xferCount t.sent))

theorem test_illegal_requests :
    refusedRequest false 1 = some (5, false, .idle, 0) ∧ refusedRequest false 2 = some (5, false, .idle, 0) ∧
    refusedRequest false 3 = some (5, false, .idle, 0) ∧ refusedRequest true 0 = some (5, true, .idle, 0) ∧
    refusedRequest true 3 = some (5, true, .idle, 0) := by
  refine ⟨?_, ?_, ?_, ?_, ?_⟩ <;> decide +kernel

/-- P5 step 3: an `rst` edge in the middle of a transfer. -/
theorem test_reset_edge :
    (nextOf (step (block true .xferWait .meas [.rst]))).map
        (fun t => (t.ready, t.phase, t.status, t.resKind, t.sent)) =
      some (false, .idle, 0, .none, []) := by decide +kernel

/-- P5 step 4: a late answer has no step. -/
theorem test_late_answer : refusalOf (step (block false .idle .meas [.xferOk v1])) = some .unsolicitedAnswer := by
  decide +kernel

/-- R242: an idle block to which an `rst` edge or a late answer may still come is over, one with a request is not,
and neither is a busy one. -/
theorem test_run_over :
    (block false .idle .meas [.rst, .xferOk v1]).runOver = true ∧ (block true .idle .meas []).runOver = true ∧
    (block true .idle .meas [.rst, .req 1 ⟨0⟩ 0 .infinite]).runOver = false ∧
    (block true .xferWait .meas []).runOver = false := by decide

/-! ### The instruction a table word places is the one the next step runs -/

theorem test_fetch_measHp :
    step (State.reset.withFetchWord 8 0xFD) = exec .measHp { State.reset.withFetchWord 8 0xFD with inbox := [] } := rfl

theorem test_fetch_readSn :
    step (State.reset.withFetchWord 8 0x89) = exec .readSn { State.reset.withFetchWord 8 0x89 with inbox := [] } := rfl

theorem test_fetch_initialize :
    step (State.reset.withFetchWord 2 0) =
      exec (.initializeDevice ⟨0⟩ 0 (.finite 0)) { State.reset.withFetchWord 2 0 with inbox := [] } := rfl

theorem test_fetch_readMeasurement :
    step (State.reset.withFetchWord 8 1) =
      exec (.readMeasurement (.finite 0)) { State.reset.withFetchWord 8 1 with inbox := [] } := rfl

theorem test_fetch_readSerialNumber :
    step (State.reset.withFetchWord 2 2) =
      exec (.readSerialNumber (.finite 0)) { State.reset.withFetchWord 2 2 with inbox := [] } := rfl

/-! ### Witnesses: for each statement, states and operands that meet its hypotheses -/

theorem next_of_isSome {o : Host.Outcome State Fault Refusal} (h : (nextOf o).isSome = true) : ∃ t, o = .next t := by
  cases o with
  | next t => exact ⟨t, rfl⟩
  | fault _ => cases h
  | refused _ => cases h

/-- What a next state satisfies, by evaluation. -/
theorem next_with {o : Host.Outcome State Fault Refusal} {p : State → Bool} (h : (nextOf o).any p = true) :
    ∃ t, o = .next t ∧ p t = true := by
  cases o with
  | next t => exact ⟨t, rfl, h⟩
  | fault _ => cases h
  | refused _ => cases h

/-- An idle block meets the invariant, whatever is still to arrive. -/
theorem idle_inv (ready : Bool) (inbox : List Input) : Inv (otherBlock ready .idle .init inbox) where
  conforms := show otherCfg.conforms = true by decide
  scratch := rfl
  width := ⟨rfl, rfl⟩
  status := show (0#3).toNat ≤ 5 by decide
  attaching h := by cases h
  exchanging h := by cases h
  crcfail h := absurd rfl h
  result h := absurd rfl h

/-- A conforming block with a tabulated CRC (R121). -/
def tableCfg : Config := { crc := .tabulated [0x81#8, 0xB0#8] }

/-- The hypothesis of every statement over the parameters alone: WireOpcodesOfTheCommands,
HostRequestsDecodeByTheirOpField, ResetLeavesTheValuesOfTheSpec, RegisterInvariantHoldsAtReset,
UnclampedResultsAreFlooredExactValues, ConversionNeverOverflows, QuantisationErrorIsBelowOneUnit,
OutcomesHaveTheirStatusNumbers. -/
theorem witness_conforming_parameters :
    Config.default.conforms = true ∧ otherCfg.conforms = true ∧ tableCfg.conforms = true := by decide

/-- CommandBytesDecodeToTheirCommandOnly, each side of each clause. -/
theorem witness_command_bytes :
    Command.ofOpcode otherCfg 0xFD#8 = some .measureHighPrecision ∧
    Command.ofOpcode otherCfg 0x89#8 = some .readSerialNumber ∧
    (0xFC#8 ≠ 0xFD#8 ∧ 0xFC#8 ≠ 0x89#8 ∧ Command.ofOpcode otherCfg 0xFC#8 = none) ∧
    Command.ofOpcode otherCfg 0x88#8 = none := by decide

/-- DecodeOfEncodeGivesTheInstruction: a handle at the top of its width, and every constructor. -/
theorem witness_decode_of_encode :
    otherCfg.conforms = true ∧ Instr.wf otherCfg (.initializeDevice ⟨255⟩ 1000000 (.finite 0)) = true ∧
    Instr.wf otherCfg (.readMeasurement .infinite) = true ∧ Instr.wf otherCfg (.readSerialNumber .infinite) = true ∧
    Instr.wf otherCfg .measHp = true ∧ Instr.wf otherCfg .readSn = true := by decide

/-- EncodeOfDecodeGivesTheSameBits, one frame of each format. -/
theorem witness_encode_of_decode :
    decode otherCfg (.cmd8 0x89#8) = .ok .readSn ∧
    decode otherCfg (.hreq 2#2 ⟨4⟩ 5 (.finite 6)) = .ok (.readSerialNumber (.finite 6)) := by decide

/-- DeserializerAssemblesBigEndianWords: no form of memory is asked for. -/
theorem witness_deserializer :
    { State.reset with scratch := [(5, 0x7D#8), (0, 0x12#8)] }.cfg.conforms = true := by decide

/-- UpToThreeFlippedBitsAreDetected, the two ends of its range. -/
theorem witness_flipped_bits :
    groupPasses 0xBEEF92#24 = true ∧ flippedBits 24 0x800000#24 = 1 ∧ flippedBits 24 0xC00001#24 = 3 := by
  decide +kernel

/-- OddNumbersOfFlippedBitsAreDetected. -/
theorem witness_odd_flips : groupPasses 0x000081#24 = true ∧ flippedBits 24 0x7FFFFF#24 % 2 = 1 := by decide +kernel

/-- BurstsOfEightBitsAreDetected, the two ends of each range. -/
theorem witness_bursts :
    groupPasses 0xFF0000#24 = true ∧ (0x01#8 ≠ 0#8 ∧ 0 ≤ 16) ∧ (0xFF#8 ≠ 0#8 ∧ 16 ≤ 16) := by decide +kernel

/-- ExactValuesHaveTheirRangeAndIncrease, ClampAndQuantisationCommute, ClampThresholdsAndMonotonicity: a pair of
neighbours, each threshold, and a block without the optional clamps. -/
theorem witness_converter_order :
    (0xFFFE#16).toNat < (0xFFFF#16).toNat ∧ (0xD41C#16).toNat = 54300 ∧ (0xD41D#16).toNat = 54301 ∧
    (0x0C49#16).toNat = 3145 ∧ (0x0C4A#16).toNat = 3146 ∧
    Config.default.conv.tMin = none ∧ Config.default.conv.rhMax = none := by decide

/-- QuantisationErrorIsBelowOneUnit: words whose value is exact. -/
theorem witness_exact_words :
    65535 ∣ 11468800 * (0x6666#16).toNat ∧ 65535 ∣ 8192000 * (0x6666#16).toNat := by decide

/-- ResultRegistersHoldTheClampedValues. -/
theorem witness_no_optional_clamps :
    Config.default.conforms = true ∧ Config.default.conv.tMin = none ∧ Config.default.conv.rhMax = none := by decide

/-- OptionalClampsApplyWhenSet: both clamps set, each also at the bound R141 gives it. -/
theorem witness_optional_clamps :
    (otherCfg.conforms = true ∧ otherCfg.conv.tMin = some (-40) ∧ otherCfg.conv.rhMax = some 100) ∧
    Config.conforms { conv := { tMin := some 100, rhMax := some 0 } } = true := by decide

/-- InitializeStartsWithAnAttach: an idle, *Uninitialized* block that still shows an old result. -/
theorem witness_initialize_starts :
    let s := { otherBlock false .idle .meas [] with crcfail := 3, status := 4 }
    s.cfg.conforms = true ∧ s.phase = .idle ∧ s.ready = false := by decide

/-- ReadMeasurementStartsItsExchange, ReadSerialNumberStartsItsExchange. -/
theorem witness_read_starts :
    let s := { otherBlock true .idle .init [] with resKind := .serial, serial := 0x12345678 }
    s.cfg.conforms = true ∧ s.phase = .idle ∧ s.ready = true := by decide

/-- AcceptedRequestsClearTheLastResult: a request that starts an operation, and one that is refused. -/
theorem witness_accepted_requests :
    (∃ t, onRequest 1 ⟨0⟩ 0 .infinite { block true .idle .rdsn [] with resKind := .serial, crcfail := 2 } = .next t) ∧
    ∃ t, onRequest 3 ⟨0⟩ 0 .infinite { block true .idle .rdsn [] with resKind := .serial, crcfail := 2 } = .next t :=
  ⟨next_of_isSome (by decide +kernel), next_of_isSome (by decide +kernel)⟩

/-- WireCommandsStageTheirOpcode, in each of the two phases. -/
theorem witness_wire_commands :
    (otherBlock true .idle .meas []).cfg.conforms = true ∧ (otherBlock true .idle .meas []).phase ≠ .xferWait ∧
    (otherBlock false .attachWait .init []).phase ≠ .xferWait := by decide

/-- InstructionsLeaveTheRestAlone: every constructor has a next state; each of its three phases occurs. -/
theorem witness_frame :
    (∃ t, exec .measHp (block true .idle .meas []) = .next t ∧ t.phase = .xferWait) ∧
    (∃ t, exec .readSn (block false .attachWait .init []) = .next t ∧ t.phase = .xferWait) ∧
    (∃ t, exec (.initializeDevice ⟨0⟩ 0 .infinite) (block false .idle .rdsn []) = .next t ∧ t.phase = .attachWait) ∧
    (∃ t, exec (.readMeasurement .infinite) (block false .idle .rdsn []) = .next t ∧ t.phase = .idle) ∧
    (∃ t, exec (.readSerialNumber .infinite) (block true .idle .rdsn []) = .next t ∧ t.phase = .xferWait) :=
  ⟨⟨_, rfl, rfl⟩, ⟨_, rfl, rfl⟩, ⟨_, rfl, rfl⟩, ⟨_, rfl, rfl⟩, ⟨_, rfl, rfl⟩⟩

/-- IllegalRequestsAreAnsweredAndChangeNothingElse: the state it names, and both values of `READY`. -/
theorem witness_illegal_requests :
    (∀ ready : Bool, (block ready .idle .init []).cfg.conforms = true ∧ (block ready .idle .init []).phase = .idle ∧
      (block ready .idle .init []).ready = ready) ∧
    ∃ t : State, t = { block true .idle .init [] with
      resKind := .none
      crcfail := 0
      status := 5
      sent := [.rsp { status := 5, errdetail := none, crcfail := 0, resKind := .none,
                      tempQ16 := none, rhQ16 := none, serial := none }] } :=
  ⟨by decide, _, rfl⟩

/-- BusyBlockRefusesRequests, both busy phases. -/
theorem witness_busy :
    (block false .attachWait .init []).phase ≠ .idle ∧ (block true .xferWait .meas []).phase ≠ .idle ∧
    (block true .xferWait .meas []).phase = .xferWait := by decide

/-- StepRunsTheRequestedInstruction: a handle at the top of its width. -/
theorem witness_step_runs :
    let s := otherBlock false .idle .meas [.req 0 ⟨255⟩ 400000 (.finite 1), .attachOk ⟨255⟩]
    s.inbox = .req 0 ⟨255⟩ 400000 (.finite 1) :: [.attachOk ⟨255⟩] ∧ fitsWidth s.cfg.bushW 255 = true ∧
    decode s.cfg (.hreq 0 ⟨255⟩ 400000 (.finite 1)) = .ok (.initializeDevice ⟨255⟩ 400000 (.finite 1)) := by decide

/-- StartedExchangesRunTheirWireCommand and AcceptedAttachStartsTheIdentityExchange. -/
theorem witness_accepted_attach :
    ((otherBlock true .idle .init []).phase = .idle ∧ (otherBlock true .idle .init []).ready = true) ∧
    let s := otherBlock false .attachWait .init [.attachOk ⟨255⟩]
    s.cfg.conforms = true ∧ s.phase = .attachWait ∧ s.inbox = .attachOk ⟨255⟩ :: [] ∧
      fitsWidth s.cfg.devhW 255 = true := by decide

/-- RejectedAttachRaisesBusAttachError. -/
theorem witness_rejected_attach :
    let s := otherBlock false .attachWait .init [.attachFailed ⟨255⟩]
    s.cfg.conforms = true ∧ s.phase = .attachWait ∧ s.inbox = .attachFailed ⟨255⟩ :: [] ∧
      fitsWidth s.cfg.xerrW 255 = true := by decide

/-- FailedTransferRaisesTheTransportsError, for the identity exchange and for a read. -/
theorem witness_failed_transfer :
    ∀ o : Bool,
      let s := otherBlock o .xferWait (if o then .rdsn else .init) [.xferFailed ⟨255⟩]
      s.cfg.conforms = true ∧ s.phase = .xferWait ∧ s.inbox = .xferFailed ⟨255⟩ :: [] ∧
        fitsWidth s.cfg.xerrW 255 = true ∧ (s.opr = .init ↔ o = false) := by decide

/-- ResponseLandsAndIsChecked, MeasurementIsReturnedOnlyIfBothWordsPass, SerialIsReturnedOnlyIfBothWordsPass: a read
whose scratch buffer holds its command byte; one response passes, the others fail in one word or in both. -/
theorem witness_read_answers :
    (let s := { answered .meas v1 with scratch := [(0, 0xFD#8)] }
     s.cfg.conforms = true ∧ Memory.wf s.cfg.wire.scratchLen s.scratch = true ∧ s.phase = .xferWait ∧ s.opr = .meas ∧
       s.inbox = .xferOk v1 :: []) ∧
    (answered .rdsn e4).opr = .rdsn ∧ (answered .rdsn e4).phase = .xferWait ∧
    (crc8 Config.default.crc v1.b0 v1.b1 = v1.b2 ∧ crc8 Config.default.crc v1.b3 v1.b4 = v1.b5) ∧
    (¬ crc8 Config.default.crc e1.b0 e1.b1 = e1.b2 ∧ crc8 Config.default.crc e1.b3 e1.b4 = e1.b5) ∧
    (crc8 Config.default.crc e2.b0 e2.b1 = e2.b2 ∧ ¬ crc8 Config.default.crc e2.b3 e2.b4 = e2.b5) ∧
    (¬ crc8 Config.default.crc e4.b0 e4.b1 = e4.b2 ∧ ¬ crc8 Config.default.crc e4.b3 e4.b4 = e4.b5) := by
  decide +kernel

/-- InitializeEndsReadyUnlessTheCheckIsFatal: a block that is lenient, and one that is not, with a response that
passes and with one that fails. -/
theorem witness_identity_answers :
    ((answered .init e6).opr = .init ∧ (answered .init e6).phase = .xferWait ∧
      (answered .init e6).cfg.initCrcFatal = false) ∧
    (let s := { answered .init v9 with cfg := { initCrcFatal := true } }
     s.cfg.conforms = true ∧ Memory.wf s.cfg.wire.scratchLen s.scratch = true ∧ s.phase = .xferWait ∧ s.opr = .init ∧
       s.cfg.initCrcFatal = true ∧ crc8 s.cfg.crc v9.b0 v9.b1 = v9.b2 ∧ crc8 s.cfg.crc v9.b3 v9.b4 = v9.b5) ∧
    let s := otherBlock false .xferWait .init [.xferOk e6]
    s.cfg.conforms = true ∧ Memory.wf s.cfg.wire.scratchLen s.scratch = true ∧ s.phase = .xferWait ∧ s.opr = .init ∧
      s.cfg.initCrcFatal = true ∧
      ¬ (crc8 s.cfg.crc e6.b0 e6.b1 = e6.b2 ∧ crc8 s.cfg.crc e6.b3 e6.b4 = e6.b5) := by decide +kernel

/-- UnsolicitedAnswersHaveNoStep, each clause in a phase that shuts its answer out. -/
theorem witness_unsolicited :
    ((otherBlock true .idle .meas [.attachOk ⟨255⟩]).phase ≠ .attachWait ∧ fitsWidth otherCfg.devhW 255 = true) ∧
    ((otherBlock true .xferWait .meas [.attachFailed ⟨255⟩]).phase ≠ .attachWait ∧
      fitsWidth otherCfg.xerrW 255 = true) ∧
    (block true .idle .meas [.xferOk v1]).phase ≠ .xferWait ∧
    (otherBlock false .attachWait .init [.xferFailed ⟨255⟩]).phase ≠ .xferWait := by decide

/-- ResetEdgeAbandonsTheOperation: a busy block. -/
theorem witness_reset_edge :
    (otherBlock true .xferWait .meas [.rst]).cfg.conforms = true ∧
    (otherBlock true .xferWait .meas [.rst]).inbox = .rst :: [] := by decide

/-- BlockWaitsForEverWithoutAMessage: an operation in flight. -/
theorem witness_wait : (block true .xferWait .meas []).inbox = [] := rfl

/-- EveryStepKeepsTheRegisterInvariant: a state in the middle of a read that meets the invariant and has a next
state. -/
theorem witness_invariant :
    Inv { answered .meas v1 with scratch := [(0, 0xFD#8)] } ∧
    ∃ t, step { answered .meas v1 with scratch := [(0, 0xFD#8)] } = .next t ∧ t.resKind = .measurement :=
  ⟨⟨by decide, by decide, by decide, by decide, by decide, by decide, by decide, by decide⟩, _, rfl, by decide +kernel⟩

/-- ConformingBlockNeverFaults: a block in the middle of an operation. -/
theorem witness_never_faults : (answered .rdsn v9).cfg.conforms = true := by decide

/-- NoStepWritesTheParameters and EveryStepIsARowOfTheTransitionTable: a step of each row. -/
theorem witness_steps :
    (∃ t, step (block true .xferWait .meas []) = .next t) ∧ (∃ t, step (block true .xferWait .meas [.rst]) = .next t) ∧
    (∃ t, step (block false .idle .init [.req 3 ⟨0⟩ 0 .infinite]) = .next t) ∧
    (∃ t, step (block false .attachWait .init [.attachOk ⟨0⟩]) = .next t) ∧
    (∃ t, step (block false .attachWait .init [.attachFailed ⟨0⟩]) = .next t) ∧
    (∃ t, step (answered .init v9) = .next t) ∧
    (∃ t, step (block true .xferWait .rdsn [.xferFailed ⟨0⟩]) = .next t) :=
  ⟨next_of_isSome (by decide +kernel), next_of_isSome (by decide +kernel), next_of_isSome (by decide +kernel),
    next_of_isSome (by decide +kernel), next_of_isSome (by decide +kernel), next_of_isSome (by decide +kernel),
    next_of_isSome (by decide +kernel)⟩

/-- EveryOperationEndsWithOneResponse and OneTransportRequestForEachWait: a step that leaves the block waiting, one
that takes the answer of an outstanding transfer. -/
theorem witness_messages :
    (∃ t, step (block true .idle .meas [.req 1 ⟨0⟩ 0 .infinite]) = .next t ∧ decide (t.phase = .xferWait) = true) ∧
    (∃ t, step (answered .meas e1) = .next t ∧ decide (t.phase = .idle) = true) ∧
    Input.req 1 ⟨0⟩ 0 .infinite ≠ .rst ∧ Input.xferOk e1 ≠ .rst ∧ (answered .meas e1).phase = .xferWait :=
  ⟨next_with (by decide +kernel), next_with (by decide +kernel), by decide, by decide, rfl⟩

/-- RunThatIsOverSendsNothingMore: nothing left, and an `rst` edge left. -/
theorem witness_run_over :
    ((block true .idle .meas []).runOver = true ∧ ∃ t, step (block true .idle .meas []) = .next t) ∧
    (block true .idle .meas [.rst]).runOver = true ∧ ∃ t, step (block true .idle .meas [.rst]) = .next t :=
  ⟨⟨by decide, next_of_isSome (by decide +kernel)⟩, by decide, next_of_isSome (by decide +kernel)⟩

/-- OperationsSendExactlyTheirTraffic: both answers, and the inbox of each clause. -/
theorem witness_traffic :
    ((∃ r, Input.xferOk v9 = .xferOk r) ∧
      ∃ e, Input.xferFailed ⟨255⟩ = .xferFailed e ∧ fitsWidth otherCfg.xerrW e.token = true) ∧
    (∀ inbox, Inv (otherBlock false .idle .init inbox) ∧ (otherBlock false .idle .init inbox).phase = .idle ∧
      (otherBlock false .idle .init inbox).inbox = inbox ∧ (otherBlock false .idle .init inbox).ready = false) ∧
    (∀ inbox, Inv (otherBlock true .idle .init inbox) ∧ (otherBlock true .idle .init inbox).phase = .idle ∧
      (otherBlock true .idle .init inbox).inbox = inbox ∧ (otherBlock true .idle .init inbox).ready = true) ∧
    fitsWidth otherCfg.bushW 255 = true ∧ fitsWidth otherCfg.devhW 255 = true ∧
    ((3#2 = otherCfg.opSel.opInit → False) ∧
      (3#2 = otherCfg.opSel.opMeas ∨ 3#2 = otherCfg.opSel.opRdsn → False)) :=
  ⟨⟨⟨_, rfl⟩, _, rfl, by decide⟩,
    fun _ => ⟨idle_inv false _, rfl, rfl, rfl⟩, fun _ => ⟨idle_inv true _, rfl, rfl, rfl⟩,
    by decide, by decide, by decide⟩

/-- NoLeakBetweenExchanges: two blocks that share their parameters, the operation and the response, and nothing
else. -/
theorem witness_no_leak :
    let s1 := { answered .meas v1 with scratch := [(0, 0xFD#8)] }
    let s2 := { answered .meas v1 with
      scratch := [(0, 0xFD#8), (3, 0x56#8)], tempQ16 := result 7, serial := 0x12345678, devh := ⟨9⟩, inbox := [.xferOk v1, .rst] }
    s1.cfg.conforms = true ∧ s2.cfg = s1.cfg ∧ s2.opr = s1.opr ∧
    Memory.wf s1.cfg.wire.scratchLen s1.scratch = true ∧ Memory.wf s2.cfg.wire.scratchLen s2.scratch = true ∧
    (∃ t, step s1 = .next t) ∧ ∃ t, step s2 = .next t :=
  ⟨by decide, rfl, rfl, by decide, by decide, next_of_isSome (by decide +kernel), next_of_isSome (by decide +kernel)⟩

/-- OnlyValidatedWordsReachTheResults: a step that makes a result valid, and a failed check. -/
theorem witness_validated :
    ((answered .meas v1).cfg.conforms = true ∧ Memory.wf 6 (answered .meas v1).scratch = true ∧
      (answered .meas v1).resKind = .none) ∧
    (∃ t, step (answered .meas v1) = .next t ∧ decide (t.resKind = .measurement) = true) ∧
    ∃ t, step (answered .rdsn e1) = .next t ∧ decide (t.status = 4) = true :=
  ⟨by decide, next_with (by decide +kernel), next_with (by decide +kernel)⟩

/-- ErrorsReturnNoDataAndKeepReady and ResponseCopiesTheRegisters: a response with an error and its code, and one
with a result. -/
theorem witness_responses :
    (∃ t, step (block true .xferWait .meas [.xferFailed ⟨5⟩]) = .next t ∧
      decide (t.sent = [] ++ [.rsp { status := 3, errdetail := some ⟨5⟩, crcfail := 0, resKind := .none,
                                     tempQ16 := none, rhQ16 := none, serial := none }]) = true) ∧
    ∃ t, step (answered .meas v1) = .next t ∧
      decide (t.sent = [] ++ [.rsp { status := 0, errdetail := none, crcfail := 0, resKind := .measurement,
                                     tempQ16 := some (result 0x00190000),
                                     rhQ16 := some (result 0x0038803E), serial := none }]) = true :=
  ⟨next_with (by decide +kernel), next_with (by decide +kernel)⟩

end Sys2Proof.Tests
end

section
/-! PROOFS. The family of 00_scope.md: the parameters are constant (R7), and a step runs the instruction its request
decodes to (R12). -/

namespace Sys2Proof.Machine

/-! ### The parameters through the operations a step is made of -/

@[simp] theorem staged_cfg (c : Command) (s : State) : (staged c s).cfg = s.cfg := rfl

@[simp] theorem attaching_cfg (bus : BusHandle) (speed : Nat) (timeout : Timeout) (s : State) :
    (attaching bus speed timeout s).cfg = s.cfg := rfl

/-- A request keeps the parameters, whatever it starts and also when it is refused. -/
theorem onRequest_cfg {op : BitVec 2} {bus : BusHandle} {speed : Nat} {timeout : Timeout} {s t : State}
    (h : onRequest op bus speed timeout s = .next t) : t.cfg = s.cfg := by
  obtain ⟨-, ⟨-, -, rfl⟩ | ⟨-, -, -, rfl⟩ | ⟨-, -, -, -, rfl⟩ | ⟨-, -, rfl⟩⟩ := onRequest_cases h
  all_goals simp

/-- A successful transfer keeps the parameters, however its operation ends. -/
theorem takeResponse_cfg {r : Rsp48} {s t : State} (h : takeResponse r s = .ok t) : t.cfg = s.cfg := by
  obtain ⟨m, v, rfl | ⟨-, rfl⟩ | ⟨-, a, b, rfl⟩ | ⟨-, a, rfl⟩⟩ := takeResponse_ends h
  all_goals simp

/-- Settles O50, by the rows of the transition table. -/
theorem noStepWritesTheParameters : Obligations.NoStepWritesTheParameters := by
  intro s t h
  rcases step_next_cases h with
    ⟨-, rfl⟩ | ⟨rest, -, rfl⟩ | ⟨op, bus, speed, timeout, rest, -, hreq⟩ | ⟨d, rest, -, -, rfl⟩ |
    ⟨e, rest, -, -, rfl⟩ | ⟨r, rest, -, -, hresp⟩ | ⟨e, rest, -, -, rfl⟩
  · rfl
  · simp
  · simpa using onRequest_cfg hreq
  · simp
  · simp
  · simpa using takeResponse_cfg hresp
  · simp

/-! ### The step of a decodable request -/

/-- A request decodes to a host operation that carries the request's own bus handle or none, so it is well-formed
when the handle fits its port. -/
theorem wf_of_decode_hreq {cfg : Config} {op : BitVec 2} {bus : BusHandle} {speed : Nat} {timeout : Timeout}
    {i : Instr} (h : decode cfg (.hreq op bus speed timeout) = .ok i) (hbus : fitsWidth cfg.bushW bus.token = true) :
    i.wf cfg = true := by
  simp only [decode] at h
  split_ifs at h <;> cases h
  · exact hbus
  · rfl
  · rfl

/-- The step takes the first message of the inbox, which has then left it (R12). -/
theorem step_eq_takeInput {s : State} {m : Input} {rest : List Input} (h : s.inbox = m :: rest) :
    step s = takeInput m (dequeue rest s) := by
  simp only [step, advance, h]

theorem takeInput_req {s : State} {bus : BusHandle} (op : BitVec 2) (speed : Nat) (timeout : Timeout)
    (hbus : fitsWidth s.cfg.bushW bus.token = true) :
    takeInput (.req op bus speed timeout) s = onRequest op bus speed timeout s :=
  if_pos hbus

theorem onRequest_of_decode {s : State} {op : BitVec 2} {bus : BusHandle} {speed : Nat} {timeout : Timeout}
    {i : Instr} (h : decode s.cfg (.hreq op bus speed timeout) = .ok i) :
    onRequest op bus speed timeout s = exec i s := by
  simp only [onRequest, h]

/-- Settles O33: the request leaves the inbox, fits its port and decodes. -/
theorem stepRunsTheRequestedInstruction : Obligations.StepRunsTheRequestedInstruction := by
  intro s op bus speed timeout rest i hin hbus hdec
  refine ⟨wf_of_decode_hreq hdec hbus, ?_⟩
  calc step s = takeInput (.req op bus speed timeout) (dequeue rest s) := step_eq_takeInput hin
    _ = onRequest op bus speed timeout (dequeue rest s) := takeInput_req op speed timeout hbus
    _ = exec i (dequeue rest s) := onRequest_of_decode hdec

end Sys2Proof.Machine
end

section
/-! PROOFS. The family of 10_state.md: reset (R36, R42), the register invariant (R20 to R31), and the one message a
step sends (R39, R40). -/

namespace Sys2Proof.Machine

/-! ### Reset (R36, R42) -/

/-- In a conforming block the numbers `STATUS` takes are those of R191. -/
theorem number_of_conforms {c : Config} (h : c.conforms = true) (k : StatusKind) :
    c.codes.number k = StatusCodes.number {} k := by
  rw [conforms_codes h]

theorem number_ok {c : Config} (h : c.conforms = true) : c.codes.number .ok = 0 :=
  number_of_conforms h .ok

/-- An `rst` edge has a step in every state. -/
theorem step_rst {s : State} {rest : List Input} (h : s.inbox = .rst :: rest) :
    step s = .next (applyReset (dequeue rest s)) := by
  rw [step_eq_takeInput h]
  exact if_pos rfl

/-- Settles O44: every field but `STATUS` is a literal of the reset state, and `STATUS` is the number of `OK`. -/
theorem resetLeavesTheValuesOfTheSpec : Obligations.ResetLeavesTheValuesOfTheSpec :=
  ⟨rfl, by decide, fun _ hc => ⟨rfl, rfl, number_ok hc, rfl, rfl⟩⟩

/-- Settles O45, by the step of an `rst` edge. -/
theorem resetEdgeAbandonsTheOperation : Obligations.ResetEdgeAbandonsTheOperation :=
  fun _ _ hc hin => ⟨_, step_rst hin, rfl, rfl, number_ok hc, rfl, rfl, rfl, rfl, rfl⟩

/-! ### The register invariant: what it says wherever the sequencer stands -/

/-- The part of `Inv` that does not depend on `PHASE`, `OPR`, `READY` or the last outcome: the parameters, the scratch
buffer, the width of the result registers. -/
def StorageOk (s : State) : Prop :=
  s.cfg.conforms = true ∧ Memory.wf s.cfg.wire.scratchLen s.scratch = true ∧
  s.tempQ16.width = s.cfg.conv.resultWidth ∧ s.rhQ16.width = s.cfg.conv.resultWidth

theorem StorageOk.conforms {s : State} (h : StorageOk s) : s.cfg.conforms = true := h.1

theorem StorageOk.scratch {s : State} (h : StorageOk s) : Memory.wf s.cfg.wire.scratchLen s.scratch = true := h.2.1

theorem StorageOk.width {s : State} (h : StorageOk s) :
    s.tempQ16.width = s.cfg.conv.resultWidth ∧ s.rhQ16.width = s.cfg.conv.resultWidth := h.2.2

theorem Inv.storageOk {s : State} (h : Inv s) : StorageOk s := ⟨h.conforms, h.scratch, h.width⟩

/-- A valid result stands only in an idle block. -/
theorem Inv.resKind_of_busy {s : State} (h : Inv s) (hp : s.phase ≠ .idle) : s.resKind = .none := by
  by_contra hr
  exact hp (h.result hr).1

theorem storageOk_storeCommand {s : State} (v : Byte) (h : StorageOk s) :
    StorageOk (setScratch (Memory.write s.scratch 0 v) s) := by
  obtain ⟨hc, hm, hw⟩ := h
  have hlen : 0 < s.cfg.wire.scratchLen := by rw [conforms_scratchLen hc]; decide
  exact ⟨hc, Memory.wf_write _ _ 0 v hm hlen, hw⟩

theorem storageOk_storeResponse {s : State} (r : Rsp48) (h : StorageOk s) :
    StorageOk (setScratch (storeResponse r s.scratch) s) := by
  obtain ⟨hc, hm, hw⟩ := h
  exact ⟨hc, writeBytes_wf r.bytes s _ 0 hm (writeBytes_response s r (conforms_scratchLen hc)), hw⟩

theorem storageOk_loseScratch {s : State} (h : StorageOk s) : StorageOk (loseScratch s) :=
  ⟨h.conforms, loseScratch_wf s, h.width⟩

/-- The converter's results have the block's `RESULT_WIDTH`. -/
theorem storageOk_setConverted {s : State} (a b : Word16) (h : StorageOk s) :
    StorageOk (setMeasurement (convertTemp s.cfg.conv a) (convertRh s.cfg.conv b) s) :=
  ⟨h.conforms, h.scratch, rfl, rfl⟩

/-! ### The register invariant after each operation that ends a step -/

theorem number_le_five {c : Config} (h : c.conforms = true) (k : StatusKind) : (c.codes.number k).toNat ≤ 5 := by
  rw [number_of_conforms h]
  cases k <;> decide

/-- An idle block meets the invariant when a valid result in it came with `READY`, `OK` and both words passed. -/
theorem inv_of_idle {s : State} (hs : StorageOk s) (hst : s.status.toNat ≤ 5) (hp : s.phase = .idle)
    (hr : s.resKind ≠ .none → s.ready = true ∧ s.status = 0 ∧ s.crcfail = 0) : Inv s where
  conforms := hs.conforms
  scratch := hs.scratch
  width := hs.width
  status := hst
  attaching := by simp [hp]
  exchanging := by simp [hp]
  crcfail := by simp [hp]
  result h := ⟨hp, hr h⟩

theorem inv_resetWith {c : Config} (h : c.conforms = true) : Inv (State.resetWith c) :=
  inv_of_idle ⟨h, rfl, rfl, rfl⟩ (number_le_five h .ok) rfl (absurd rfl)

theorem inv_applyReset {s : State} (h : s.cfg.conforms = true) : Inv (applyReset s) :=
  inv_of_idle ⟨h, applyReset_wf s, rfl, rfl⟩ (number_le_five h .ok) rfl (absurd rfl)

theorem inv_raiseWith {s : State} (k : StatusKind) (e : ErrCode) (hs : StorageOk s) : Inv (raiseWith k e s) :=
  inv_of_idle hs (number_le_five hs.conforms k) rfl (absurd rfl)

theorem inv_raiseChecksumError {s : State} (hs : StorageOk s) : Inv (raiseChecksumError s) :=
  inv_of_idle hs (number_le_five hs.conforms .checksumError) rfl (absurd rfl)

theorem inv_finishOk {s : State} (r : ResKind) (hs : StorageOk s)
    (hr : r ≠ .none → s.ready = true ∧ s.crcfail = 0) : Inv (finishOk r s) :=
  inv_of_idle hs (number_le_five hs.conforms .ok) rfl fun h => ⟨(hr h).1, number_ok hs.conforms, (hr h).2⟩

theorem inv_refuseRequest {s : State} (hs : StorageOk s) (hp : s.phase = .idle) :
    Inv (refuseRequest (clearResult s)) :=
  inv_of_idle hs (number_le_five hs.conforms .illegalRequest) hp (absurd rfl)

/-- Starting to attach, in *Uninitialized* with the last result cleared. -/
theorem inv_attaching {s : State} (bus : BusHandle) (speed : Nat) (timeout : Timeout) (hs : StorageOk s)
    (hst : s.status.toNat ≤ 5) (hready : s.ready = false) : Inv (attaching bus speed timeout (clearResult s)) where
  conforms := hs.conforms
  scratch := hs.scratch
  width := hs.width
  status := hst
  attaching _ := ⟨rfl, hready⟩
  exchanging h := nomatch h
  crcfail _ := rfl
  result h := absurd rfl h

/-- Staging a command, with the operation latched that its row of R160 allows and no result standing. -/
theorem inv_staged {s : State} (c : Command) (hs : StorageOk s) (hst : s.status.toNat ≤ 5)
    (hopr : s.opr = .init ↔ s.ready = false) (hcrc : s.crcfail = 0) (hres : s.resKind = .none) : Inv (staged c s) := by
  obtain ⟨hc, hm, hw⟩ := storageOk_storeCommand (Command.opcode s.cfg c) hs
  exact
    { conforms := hc, scratch := hm, width := hw, status := hst
      attaching := fun h => nomatch h
      exchanging := fun _ => hopr
      crcfail := fun _ => hcrc
      result := fun h => absurd hres h }

/-! ### The register invariant over a request and over a response -/

/-- A request keeps the invariant, whatever it starts and also when it is refused. -/
theorem inv_onRequest {op : BitVec 2} {bus : BusHandle} {speed : Nat} {timeout : Timeout} {s t : State}
    (hs : StorageOk s) (hst : s.status.toNat ≤ 5) (h : onRequest op bus speed timeout s = .next t) : Inv t := by
  obtain ⟨hidle, ⟨-, hready, rfl⟩ | ⟨-, -, hready, rfl⟩ | ⟨-, -, -, hready, rfl⟩ | ⟨-, -, rfl⟩⟩ := onRequest_cases h
  · exact inv_attaching bus speed timeout hs hst hready
  · exact inv_staged _ hs hst (by simp [hready]) rfl rfl
  · exact inv_staged _ hs hst (by simp [hready]) rfl rfl
  · exact inv_refuseRequest hs hidle

/-- The end of an exchange keeps the invariant: a result becomes valid only in *Ready* (a read is in flight there
only) and with `CRCFAIL` clear (both words passed). -/
theorem inv_finishExchange {w : Words} {s : State} (hs : StorageOk s) (hopr : s.opr = .init ↔ s.ready = false) :
    Inv (finishExchange w (setCrcfail (w.crcfail s.cfg.crc) s)) := by
  have hready : s.opr ≠ .init → s.ready = true := fun ho => by simpa using mt hopr.mpr ho
  rcases finishExchange_cases w (setCrcfail (w.crcfail s.cfg.crc) s) with
    ⟨e, -, -⟩ | ⟨-, -, e⟩ | ⟨ho, hpass, e⟩ | ⟨ho, hpass, e⟩ <;> rw [e]
  · exact inv_raiseChecksumError hs
  · exact inv_finishOk .none hs (absurd rfl)
  · exact inv_finishOk _ (storageOk_setConverted _ _ hs) fun _ =>
      ⟨hready (by rw [show s.opr = .meas from ho]; decide), crcfail_of_pass _ _ hpass⟩
  · exact inv_finishOk _ hs fun _ =>
      ⟨hready (by rw [show s.opr = .rdsn from ho]; decide), crcfail_of_pass _ _ hpass⟩

theorem inv_takeResponse {r : Rsp48} {s t : State} (hs : StorageOk s) (hopr : s.opr = .init ↔ s.ready = false)
    (h : takeResponse r s = .ok t) : Inv t := by
  cases (takeResponse_ok r hs.conforms hs.scratch).symm.trans h
  exact inv_finishExchange (storageOk_storeResponse r hs) hopr

/-- Settles O47: after reset the block is idle and no result stands. -/
theorem registerInvariantHoldsAtReset : Obligations.RegisterInvariantHoldsAtReset :=
  fun _ => inv_resetWith

/-- Settles O48, by the rows of the transition table. -/
theorem everyStepKeepsTheRegisterInvariant : Obligations.EveryStepKeepsTheRegisterInvariant := by
  intro s t hinv h
  have hs := hinv.storageOk
  rcases step_next_cases h with
    ⟨-, rfl⟩ | ⟨rest, -, rfl⟩ | ⟨op, bus, speed, timeout, rest, -, hreq⟩ | ⟨d, rest, -, hp, rfl⟩ |
    ⟨e, rest, -, -, rfl⟩ | ⟨r, rest, -, hp, hresp⟩ | ⟨e, rest, -, -, rfl⟩
  · exact hinv
  · exact inv_applyReset hs.conforms
  · exact inv_onRequest (s := dequeue rest s) hs hinv.status hreq
  · have hbusy : s.phase ≠ .idle := by simp [hp]
    obtain ⟨hopr, hready⟩ := hinv.attaching hp
    exact inv_staged _ hs hinv.status (iff_of_true hopr hready) (hinv.crcfail hbusy) (hinv.resKind_of_busy hbusy)
  · exact inv_raiseWith _ e hs
  · exact inv_takeResponse (s := dequeue rest s) hs (hinv.exchanging hp) hresp
  · exact inv_raiseWith _ e (storageOk_loseScratch (s := dequeue rest s) hs)

/-! ### The one message a step sends (R39, R40) -/

/-- The outcomes whose `Rsp` carries the transport's code: codes 1, 2 and 3 (R29, R200). -/
def carriesCode (k : StatusKind) : Bool :=
  match k with
  | .ok => false
  | .busAttachError => true
  | .deviceNotResponding => true
  | .transportError => true
  | .checksumError => false
  | .illegalRequest => false

theorem carriesCode_transferError (o : Opr) : carriesCode (transferError o) = true := by
  cases o <;> rfl

theorem carriesCode_iff {c : Config} (h : c.conforms = true) (k : StatusKind) :
    carriesCode k = true ↔ c.codes.number k = 1 ∨ c.codes.number k = 2 ∨ c.codes.number k = 3 := by
  rw [number_of_conforms h]
  cases k <;> decide

/-- From `s` the operation has ended in `t` with outcome `k`: the block is idle, and the one message sent is the copy
of the registers of `t`. -/
def EndsWith (k : StatusKind) (s t : State) : Prop :=
  t.phase = .idle ∧ t.status = t.cfg.codes.number k ∧
  t.sent = s.sent ++ [.rsp (responseOf (if carriesCode k then some t.errdetail else none) t)]

theorem endsWith_raiseWith {k : StatusKind} (e : ErrCode) (s : State) (hk : carriesCode k = true) :
    EndsWith k s (raiseWith k e s) := by
  refine ⟨rfl, rfl, ?_⟩
  rw [if_pos hk]
  rfl

theorem endsWith_raiseChecksumError (s : State) : EndsWith .checksumError s (raiseChecksumError s) := ⟨rfl, rfl, rfl⟩

theorem endsWith_finishOk (r : ResKind) (s : State) : EndsWith .ok s (finishOk r s) := ⟨rfl, rfl, rfl⟩

theorem endsWith_refuseRequest {s : State} (hp : s.phase = .idle) : EndsWith .illegalRequest s (refuseRequest s) :=
  ⟨hp, rfl, rfl⟩

/-- A successful transfer ends its operation. -/
theorem endsWith_of_takeResponse {r : Rsp48} {s t : State} (h : takeResponse r s = .ok t) : ∃ k, EndsWith k s t := by
  obtain ⟨m, v, rfl | ⟨-, rfl⟩ | ⟨-, a, b, rfl⟩ | ⟨-, a, rfl⟩⟩ := takeResponse_ends h
  · exact ⟨_, endsWith_raiseChecksumError _⟩
  · exact ⟨_, endsWith_finishOk _ _⟩
  · exact ⟨_, endsWith_finishOk _ _⟩
  · exact ⟨_, endsWith_finishOk _ _⟩

/-- What a step that takes a message other than `rst` sends: `Rsp` with the end of the operation, or the one request
whose answer the block then waits for. -/
def SendsOne (s t : State) : Prop :=
  (∃ k, EndsWith k s t) ∨
  (t.phase = .attachWait ∧ s.phase = .idle ∧ ∃ bus address speed, t.sent = s.sent ++ [.attach bus address speed]) ∨
  (t.phase = .xferWait ∧ s.phase ≠ .xferWait ∧
    ∃ devh wbytes rcount timeout, t.sent = s.sent ++ [.xfer devh wbytes rcount timeout])

theorem sendsOne_staged (c : Command) {s : State} (hp : s.phase ≠ .xferWait) : SendsOne s (staged c s) :=
  .inr (.inr ⟨rfl, hp, _, _, _, _, rfl⟩)

theorem sendsOne_of_onRequest {op : BitVec 2} {bus : BusHandle} {speed : Nat} {timeout : Timeout} {s t : State}
    (h : onRequest op bus speed timeout s = .next t) : SendsOne s t := by
  obtain ⟨hidle, hcases⟩ := onRequest_cases h
  have hp : s.phase ≠ .xferWait := by simp [hidle]
  obtain ⟨-, -, rfl⟩ | ⟨-, -, -, rfl⟩ | ⟨-, -, -, -, rfl⟩ | ⟨-, -, rfl⟩ := hcases
  · exact .inr (.inl ⟨rfl, hidle, _, _, _, rfl⟩)
  · exact sendsOne_staged _ hp
  · exact sendsOne_staged _ hp
  · exact .inl ⟨_, endsWith_refuseRequest (s := clearResult s) hidle⟩

/-- Every step sends nothing (it waits, or takes an `rst` edge) or exactly one message. -/
theorem step_sends {s t : State} (h : step s = .next t) :
    ((s.inbox = [] ∨ ∃ rest, s.inbox = .rst :: rest) ∧ t.sent = s.sent) ∨ SendsOne s t := by
  rcases step_next_cases h with
    ⟨hin, rfl⟩ | ⟨rest, hin, rfl⟩ | ⟨op, bus, speed, timeout, rest, -, hreq⟩ | ⟨d, rest, -, hp, rfl⟩ |
    ⟨e, rest, -, -, rfl⟩ | ⟨r, rest, -, -, hresp⟩ | ⟨e, rest, -, -, rfl⟩
  · exact .inl ⟨.inl hin, rfl⟩
  · exact .inl ⟨.inr ⟨rest, hin⟩, rfl⟩
  · exact .inr (sendsOne_of_onRequest (s := dequeue rest s) hreq)
  · exact .inr (sendsOne_staged (s := setDevh d (dequeue rest s)) _ (by simp [hp]))
  · exact .inr (.inl ⟨_, endsWith_raiseWith e _ rfl⟩)
  · exact .inr (.inl (endsWith_of_takeResponse (s := dequeue rest s) hresp))
  · exact .inr (.inl ⟨_, endsWith_raiseWith e _ (carriesCode_transferError _)⟩)

/-- The transport requests sent are counted by the wait the one message of a step leaves the block in. -/
theorem SendsOne.transportCount {s t : State} (h : SendsOne s t) :
    attachCount t.sent + xferCount t.sent =
      attachCount s.sent + xferCount s.sent + (if t.phase = .idle then 0 else 1) := by
  rcases h with ⟨k, hp, -, hsent⟩ | ⟨hp, -, bus, address, speed, hsent⟩ | ⟨hp, -, devh, wbytes, rcount, timeout, hsent⟩
  all_goals
    simp only [hp, hsent, attachCount_snoc, xferCount_snoc, attachCount, xferCount, reduceCtorEq, if_true, if_false]
    omega

/-- The answer to a transfer is the last an operation waits for. -/
theorem SendsOne.idle_of_xferWait {s t : State} (h : SendsOne s t) (hp : s.phase = .xferWait) : t.phase = .idle := by
  rcases h with ⟨k, hidle, -, -⟩ | ⟨-, hs, -⟩ | ⟨-, hs, -⟩
  · exact hidle
  · simp [hp] at hs
  · exact absurd hp hs

/-- Settles O53: a step that takes a message other than `rst` sends exactly one message. -/
theorem oneTransportRequestForEachWait : Obligations.OneTransportRequestForEachWait := by
  intro s t m rest hin hne h
  rcases step_sends h with ⟨hnil | ⟨rest', hrst⟩, -⟩ | hsends
  · simp [hin] at hnil
  · simp [hin, hne] at hrst
  · exact ⟨hsends.transportCount, hsends.idle_of_xferWait⟩

/-- A step that sends `Rsp` has ended the operation, and `Rsp` is the copy of its registers. -/
theorem endsWith_of_step {s t : State} {r : Response} (h : step s = .next t) (hr : t.sent = s.sent ++ [.rsp r]) :
    ∃ k, EndsWith k s t ∧ r = responseOf (if carriesCode k then some t.errdetail else none) t := by
  rcases step_sends h with ⟨-, hsent⟩ | ⟨k, hp, hstatus, hsent⟩ | ⟨-, -, bus, address, speed, hsent⟩ |
    ⟨-, -, devh, wbytes, rcount, timeout, hsent⟩
  · simp [hr] at hsent
  · exact ⟨k, ⟨hp, hstatus, hsent⟩, by simpa [hr] using hsent⟩
  · simp [hr] at hsent
  · simp [hr] at hsent

/-- Settles O58: `Rsp` is the copy of the registers an ended operation leaves, and its outcome carries the transport's
code for the numbers 1, 2 and 3. -/
theorem responseCopiesTheRegisters : Obligations.ResponseCopiesTheRegisters := by
  intro s t r hc h hr
  obtain ⟨k, ⟨-, hstatus, -⟩, rfl⟩ := endsWith_of_step h hr
  have hct : t.cfg.conforms = true := by rw [noStepWritesTheParameters s t h]; exact hc
  refine ⟨rfl, rfl, rfl, rfl, rfl, rfl, ?_⟩
  simp only [responseOf_errdetail, carriesCode_iff hct, hstatus]

end Sys2Proof.Machine
end

section
/-! PROOFS. The family of 20_memory.md: a busy block refuses requests (R72), accesses stay within the scratch buffer
(R50), a response lands and is checked (R62, R126), and nothing of an earlier exchange shows in the result (R66). -/

namespace Sys2Proof.Machine

/-! ### A busy block (R72) -/

theorem acceptRequest_of_busy {s : State} (legal : Bool) (start : State → Except Fault State) (h : s.phase ≠ .idle) :
    acceptRequest legal start s = .refused .requestWhileBusy := by
  rcases acceptRequest_cases legal start s with ⟨hp, -, -⟩ | ⟨hp, -, -⟩ | ⟨-, e⟩
  · exact absurd hp h
  · exact absurd hp h
  · exact e

theorem execMeasHp_of_xferWait {s : State} (h : s.phase = .xferWait) :
    execMeasHp s = .refused .exchangeInFlight := by
  simp only [execMeasHp, h]

theorem execReadSn_of_xferWait {s : State} (h : s.phase = .xferWait) :
    execReadSn s = .refused .exchangeInFlight := by
  simp only [execReadSn, h]

/-- Settles O32: each host operation passes through `acceptRequest`, and each wire command looks at `PHASE` itself. -/
theorem busyBlockRefusesRequests : Obligations.BusyBlockRefusesRequests := fun _ _ _ _ hbusy =>
  ⟨acceptRequest_of_busy _ _ hbusy, acceptRequest_of_busy _ _ hbusy, acceptRequest_of_busy _ _ hbusy,
    fun hx => ⟨execMeasHp_of_xferWait hx, execReadSn_of_xferWait hx⟩⟩

/-! ### No access outside the scratch buffer (R50) -/

/-- The outcome is no fault. -/
def FaultFree (o : Host.Outcome State Fault Refusal) : Prop := ∀ f, o ≠ .fault f

@[simp] theorem faultFree_next (s : State) : FaultFree (.next s) := nofun

@[simp] theorem faultFree_refused (r : Refusal) : FaultFree (.refused r) := nofun

theorem faultFree_outcomeOf {r : Except Fault State} (h : ∃ t, r = .ok t) : FaultFree (outcomeOf r) := by
  obtain ⟨t, rfl⟩ := h
  exact faultFree_next t

/-- A request can fault only in the start of its operation. -/
theorem faultFree_acceptRequest {start : State → Except Fault State} {s : State} (legal : Bool)
    (h : ∃ t, start (clearResult s) = .ok t) : FaultFree (acceptRequest legal start s) := by
  rcases acceptRequest_cases legal start s with ⟨-, -, e⟩ | ⟨-, -, e⟩ | ⟨-, e⟩ <;> rw [e]
  · exact faultFree_outcomeOf h
  · exact faultFree_next _
  · exact faultFree_refused _

theorem faultFree_stage {s : State} (c : Command) (h : s.cfg.conforms = true) : FaultFree (outcomeOf (stage c s)) :=
  faultFree_outcomeOf ⟨_, stage_ok c h⟩

theorem faultFree_exec {s : State} (i : Instr) (h : s.cfg.conforms = true) : FaultFree (exec i s) := by
  cases i with
  | measHp =>
    simp only [exec, execMeasHp]
    cases s.phase <;> simp [faultFree_stage, h]
  | readSn =>
    simp only [exec, execReadSn]
    cases s.phase <;> simp [faultFree_stage, h]
  | initializeDevice bus speed timeout => exact faultFree_acceptRequest _ ⟨_, startAttach_eq bus speed timeout _⟩
  | readMeasurement timeout =>
    exact faultFree_acceptRequest _ ⟨_, stage_ok (s := latch .meas timeout (clearResult s)) _ h⟩
  | readSerialNumber timeout =>
    exact faultFree_acceptRequest _ ⟨_, stage_ok (s := latch .rdsn timeout (clearResult s)) _ h⟩

theorem faultFree_onRequest {s : State} (op : BitVec 2) (bus : BusHandle) (speed : Nat) (timeout : Timeout)
    (h : s.cfg.conforms = true) : FaultFree (onRequest op bus speed timeout s) := by
  simp only [onRequest]
  split
  · exact faultFree_exec _ h
  · exact faultFree_acceptRequest _ ⟨_, rfl⟩

/-- The deserializer reads offsets 0 to 5 only. -/
theorem deserialize_isOk {s : State} (h : s.cfg.wire.scratchLen = 6) : ∃ w, deserialize s = .ok w := by
  simp [deserialize, readWord_ok, readByte_ok, h]

/-- A response is taken without a fault whatever the scratch buffer held, in canonical form or not. -/
theorem takeResponse_isOk {s : State} (r : Rsp48) (h : s.cfg.wire.scratchLen = 6) : ∃ t, takeResponse r s = .ok t := by
  obtain ⟨w, hw⟩ := deserialize_isOk (s := setScratch (storeResponse r s.scratch) s) h
  simp [takeResponse, writeBytes_response s r h, hw]

theorem faultFree_takeInput {s : State} (m : Input) (h : s.cfg.conforms = true) : FaultFree (takeInput m s) := by
  simp only [takeInput]
  split
  · cases m with
    | rst => exact faultFree_next _
    | req op bus speed timeout => exact faultFree_onRequest op bus speed timeout h
    | attachOk d =>
      simp only [onAttachOk]
      cases s.phase <;> simp [faultFree_stage, h]
    | attachFailed e =>
      simp only [onAttachFailed]
      cases s.phase <;> simp
    | xferOk r =>
      simp only [onXferOk]
      cases s.phase <;> simp [faultFree_outcomeOf, takeResponse_isOk r (conforms_scratchLen h)]
    | xferFailed e =>
      simp only [onXferFailed]
      cases s.phase <;> simp
  · exact faultFree_refused _

/-- Settles O49: every access of a step is a staged command's, a landing response's or the deserializer's. -/
theorem conformingBlockNeverFaults : Obligations.ConformingBlockNeverFaults := by
  intro s hc
  change FaultFree (step s)
  cases hin : s.inbox with
  | nil =>
    have hstep : step s = .next s := by simp only [step, advance, hin]
    rw [hstep]
    exact faultFree_next s
  | cons m rest =>
    rw [step_eq_takeInput hin]
    exact faultFree_takeInput m hc

/-! ### A response lands and is checked (R62, R126, R179) -/

/-- A landing response leaves every offset from 6 on alone. -/
theorem read_storeResponse_of_ge (r : Rsp48) (m : Memory) {a : Nat} (h : 6 ≤ a) :
    Memory.read (storeResponse r m) a = Memory.read m a := by
  have hne : ∀ k < 6, a ≠ k := fun k hk => by omega
  simp [storeResponse, Memory.read_write_other, hne]

/-- However an exchange ends, it leaves the block idle and keeps `SCRATCH` and `CRCFAIL`. -/
theorem finishExchange_frame (w : Words) (s : State) :
    (finishExchange w s).phase = .idle ∧ (finishExchange w s).scratch = s.scratch ∧
    (finishExchange w s).crcfail = s.crcfail := by
  rcases finishExchange_cases w s with ⟨e, -, -⟩ | ⟨-, -, e⟩ | ⟨-, -, e⟩ | ⟨-, -, e⟩ <;> simp [e]

/-- Each bit of `CRCFAIL` is the failed check of its own word (R126). -/
theorem crcfail_wordsOf (f : CrcFunction) (r : Rsp48) :
    (((wordsOf r).crcfail f).getLsbD 0 = true ↔ crc8 f r.b0 r.b1 ≠ r.b2) ∧
    (((wordsOf r).crcfail f).getLsbD 1 = true ↔ crc8 f r.b3 r.b4 ≠ r.b5) := by
  obtain ⟨h0, h1⟩ := crcfail_bits f (wordsOf r)
  rw [h0, h1]
  simp [wordOk, wordsOf]

/-- Settles O38: the end of the exchange keeps what the landing and the check wrote. -/
theorem responseLandsAndIsChecked : Obligations.ResponseLandsAndIsChecked := by
  intro s r rest hc hm hp hin
  refine ⟨_, step_xferOk hc hm hp hin, ?_⟩
  rw [conforms_scratchLen hc] at hm
  obtain ⟨r0, r1, r2, r3, r4, r5⟩ := read_storeResponse r s.scratch hm
  obtain ⟨c0, c1⟩ := crcfail_wordsOf s.cfg.crc r
  simp only [finishExchange_frame, setCrcfail_scratch, setCrcfail_crcfail, setScratch_scratch]
  exact ⟨trivial, r0, r1, r2, r3, r4, r5, fun a ha => read_storeResponse_of_ge r s.scratch ha, c0, c1⟩

/-! ### What an exchange returns depends on its response and the parameters alone (R66) -/

/-- A successful transfer has a step only while one is awaited. -/
theorem phase_of_step_xferOk {s t : State} {r : Rsp48} {rest : List Input} (hin : s.inbox = .xferOk r :: rest)
    (h : step s = .next t) : s.phase = .xferWait := by
  rw [step_eq_takeInput hin] at h
  obtain ⟨-, hp, -⟩ := takeInput_cases h
  exact hp

/-- `Rsp` written out in the registers it copies (R31, R39). -/
theorem responseOf_eq (d : Option ErrCode) (s : State) :
    responseOf d s =
      { status := s.status, errdetail := d, crcfail := s.crcfail, resKind := s.resKind
        tempQ16 := if s.resKind = .measurement then some s.tempQ16 else none
        rhQ16 := if s.resKind = .measurement then some s.rhQ16 else none
        serial := if s.resKind = .serial then some s.serial else none } := rfl

/-- Ends of an exchange on the same words agree in all that `Rsp` copies without the transport's code, when the
parameters, the operation in flight and `CRCFAIL` agree. -/
theorem responseOf_finishExchange_congr {a b : State} (w : Words) (hcfg : b.cfg = a.cfg) (hopr : b.opr = a.opr)
    (hcrc : b.crcfail = a.crcfail) :
    responseOf none (finishExchange w a) = responseOf none (finishExchange w b) := by
  simp only [finishExchange, hopr]
  cases a.opr with
  | init =>
    simp only [finishInit, hcfg]
    split <;> simp [responseOf_eq, hcfg, hcrc]
  | meas =>
    simp only [finishMeasurement, hcfg]
    split <;> simp [responseOf_eq, hcfg, hcrc]
  | rdsn =>
    simp only [finishSerial, hcfg]
    split <;> simp [responseOf_eq, hcfg, hcrc]

/-- Settles O55: both steps end the exchange on the words of the one response, with the same verdict in `CRCFAIL`. -/
theorem noLeakBetweenExchanges : Obligations.NoLeakBetweenExchanges := by
  intro s1 s2 t1 t2 r rest1 rest2 hc hcfg hopr hm1 hm2 hin1 hin2 h1 h2
  have hc2 : s2.cfg.conforms = true := by rw [hcfg]; exact hc
  cases (step_xferOk hc hm1 (phase_of_step_xferOk hin1 h1) hin1).symm.trans h1
  cases (step_xferOk hc2 hm2 (phase_of_step_xferOk hin2 h2) hin2).symm.trans h2
  rw [hcfg]
  have hrsp := responseOf_finishExchange_congr (wordsOf r)
    (a := setCrcfail ((wordsOf r).crcfail s1.cfg.crc) (setScratch (storeResponse r s1.scratch) (dequeue rest1 s1)))
    (b := setCrcfail ((wordsOf r).crcfail s1.cfg.crc) (setScratch (storeResponse r s2.scratch) (dequeue rest2 s2)))
    hcfg hopr rfl
  obtain ⟨hstatus, -, hcrc, hkind, htemp, hrh, hserial⟩ := Response.mk.inj hrsp
  exact ⟨hstatus, hcrc, hkind, htemp, hrh, hserial⟩

end Sys2Proof.Machine
end

section
/-! PROOFS. The family of 30_encoding.md: the command bytes (R88), the op field of a request (R86, R90), and the
places of the bytes of a response (R83). -/

namespace Sys2Proof

/-! ### Command bytes (R88) -/

/-- A byte that decodes to a command is that command's opcode, under any parameters. -/
theorem Command.eq_opcode_of_ofOpcode {cfg : Config} {b : Byte} {c : Command} (h : Command.ofOpcode cfg b = some c) :
    b = Command.opcode cfg c := by
  unfold Command.ofOpcode at h
  split_ifs at h with hmeas hread
  · cases h
    exact hmeas
  · cases h
    exact hread

/-- The opcode of a command decodes to it, where the two opcodes differ (R101). -/
theorem Command.ofOpcode_opcode {cfg : Config} (hne : cfg.wire.opcReadSn ≠ cfg.wire.opcMeasHp) (c : Command) :
    Command.ofOpcode cfg (Command.opcode cfg c) = some c := by
  cases c with
  | measureHighPrecision => exact if_pos rfl
  | readSerialNumber => exact (if_neg hne).trans (if_pos rfl)

/-- ENC and its partial inverse agree, where the two opcodes differ (R88). -/
theorem Command.ofOpcode_eq_some_iff {cfg : Config} (hne : cfg.wire.opcReadSn ≠ cfg.wire.opcMeasHp) (b : Byte)
    (c : Command) : Command.ofOpcode cfg b = some c ↔ b = Command.opcode cfg c := by
  constructor
  · exact Command.eq_opcode_of_ofOpcode
  · rintro rfl
    exact Command.ofOpcode_opcode hne c

theorem Command.ofOpcode_eq_none {cfg : Config} {b : Byte} (hmeas : b ≠ cfg.wire.opcMeasHp)
    (hread : b ≠ cfg.wire.opcReadSn) : Command.ofOpcode cfg b = none :=
  (if_neg hmeas).trans (if_neg hread)

theorem decode_cmd8_of_none {cfg : Config} {b : Byte} (h : Command.ofOpcode cfg b = none) :
    decode cfg (.cmd8 b) = .error (.notACommand b) := by
  simp only [decode, h]

/-- Settles O3: the two opcodes of a conforming block are the bytes `0xFD` and `0x89`, which differ. -/
theorem commandBytesDecodeToTheirCommandOnly : Obligations.CommandBytesDecodeToTheirCommandOnly := by
  intro cfg b hc
  have hmeas : cfg.wire.opcMeasHp = 0xFD#8 := by rw [Machine.conforms_wire hc]
  have hread : cfg.wire.opcReadSn = 0x89#8 := by rw [Machine.conforms_wire hc]
  have hne : cfg.wire.opcReadSn ≠ cfg.wire.opcMeasHp := by
    rw [hmeas, hread]
    decide
  refine ⟨Command.ofOpcode_eq_some_iff hne b, fun hFD h89 => ?_⟩
  have hnone : Command.ofOpcode cfg b = none := Command.ofOpcode_eq_none (hmeas ▸ hFD) (hread ▸ h89)
  exact ⟨hnone, decode_cmd8_of_none hnone⟩

/-! ### Host requests (R86, R90) -/

/-- The decoder of a request in a conforming block, with the numbers of D14. -/
theorem decode_hreq_of_conforms {cfg : Config} (hc : cfg.conforms = true) (op : BitVec 2) (bus : BusHandle)
    (speed : Nat) (timeout : Timeout) :
    decode cfg (.hreq op bus speed timeout) =
      if op = 0 then .ok (.initializeDevice bus speed timeout)
      else if op = 1 then .ok (.readMeasurement timeout)
      else if op = 2 then .ok (.readSerialNumber timeout)
      else .error (.reservedOp op) := by
  simp only [decode, Machine.conforms_opSel hc]

/-- Settles O5: each number of D14 selects its own branch of the decoder, and 3 selects none. -/
theorem hostRequestsDecodeByTheirOpField : Obligations.HostRequestsDecodeByTheirOpField := by
  intro cfg bus speed timeout hc
  exact ⟨decode_hreq_of_conforms hc 0 bus speed timeout, decode_hreq_of_conforms hc 1 bus speed timeout,
    decode_hreq_of_conforms hc 2 bus speed timeout, decode_hreq_of_conforms hc 3 bus speed timeout⟩

/-! ### The 48 bits of a response (R83) -/

/-- Bits above the last byte of a string are bits of the string before that byte. -/
theorem extractLsb'_append_byte {w : Nat} (start len : Nat) (x : BitVec w) (b : Byte) :
    (x ++ b).extractLsb' (start + 8) len = x.extractLsb' start len :=
  BitVec.extractLsb'_append_eq_of_le (Nat.le_add_left 8 start)

/-- Two adjacent slices of a string, the second a byte, are one slice of it. -/
theorem extractLsb'_append_lower_byte {w : Nat} (start len : Nat) (v : BitVec w) :
    v.extractLsb' (start + 8) len ++ v.extractLsb' start 8 = v.extractLsb' start (len + 8) :=
  BitVec.extractLsb'_append_extractLsb'_eq_extractLsb' rfl

/-- The bytes of a 48-bit string, put together again from the high end, are the string. -/
theorem Rsp48.toBits_ofBits (v : BitVec 48) : (Rsp48.ofBits v).toBits = v :=
  calc (Rsp48.ofBits v).toBits
    _ = v.extractLsb' 40 8 ++ v.extractLsb' 32 8 ++ v.extractLsb' 24 8 ++ v.extractLsb' 16 8 ++ v.extractLsb' 8 8 ++
          v.extractLsb' 0 8 := rfl
    _ = v.extractLsb' 0 48 := by
      simp only [extractLsb'_append_lower_byte 32 8, extractLsb'_append_lower_byte 24 16,
        extractLsb'_append_lower_byte 16 24, extractLsb'_append_lower_byte 8 32, extractLsb'_append_lower_byte 0 40]
    _ = v := BitVec.extractLsb'_eq_self

/-- Settles O8: each byte of a response is what is left of the string above the bytes that follow it. -/
theorem responseBytesStandInWireOrder : Obligations.ResponseBytesStandInWireOrder := by
  refine ⟨Rsp48.toBits_ofBits, fun r => ?_⟩
  unfold Rsp48.toBits
  refine ⟨?_, ?_, ?_, ?_, ?_, BitVec.extractLsb'_append_eq_right⟩
  · rw [extractLsb'_append_byte 32, extractLsb'_append_byte 24, extractLsb'_append_byte 16, extractLsb'_append_byte 8,
      BitVec.extractLsb'_append_eq_left]
  · rw [extractLsb'_append_byte 24, extractLsb'_append_byte 16, extractLsb'_append_byte 8, extractLsb'_append_byte 0,
      BitVec.extractLsb'_append_eq_right]
  · rw [extractLsb'_append_byte 16, extractLsb'_append_byte 8, extractLsb'_append_byte 0,
      BitVec.extractLsb'_append_eq_right]
  · rw [extractLsb'_append_byte 8, extractLsb'_append_byte 0, BitVec.extractLsb'_append_eq_right]
  · rw [extractLsb'_append_byte 0, BitVec.extractLsb'_append_eq_right]

end Sys2Proof
end

section
/-! PROOFS. The family of 40_command_encoder.md: the opcodes (R101), the command each operation sends (R102), and the
wire commands on their own and inside the steps that start an exchange (R103, R105, R106). -/

namespace Sys2Proof

/-! ### The encoding function (R101, R102) -/

theorem Command.opcode_measureHighPrecision {cfg : Config} (hc : cfg.conforms = true) :
    Command.opcode cfg .measureHighPrecision = 0xFD#8 := by
  simp only [Command.opcode, Machine.conforms_wire hc]

theorem Command.opcode_readSerialNumber {cfg : Config} (hc : cfg.conforms = true) :
    Command.opcode cfg .readSerialNumber = 0x89#8 := by
  simp only [Command.opcode, Machine.conforms_wire hc]

/-- ENC has a left inverse (R88), so it is injective, where the two opcodes differ. -/
theorem Command.opcode_injective {cfg : Config} (hne : cfg.wire.opcReadSn ≠ cfg.wire.opcMeasHp) :
    Function.Injective (Command.opcode cfg) := fun c d h =>
  Option.some.inj <|
    calc some c = Command.ofOpcode cfg (Command.opcode cfg c) := (Command.ofOpcode_opcode hne c).symm
      _ = Command.ofOpcode cfg (Command.opcode cfg d) := by rw [h]
      _ = some d := Command.ofOpcode_opcode hne d

/-- Settles O1: the two opcodes of a conforming block differ. -/
theorem wireOpcodesOfTheCommands : Obligations.WireOpcodesOfTheCommands := by
  intro cfg hc
  have hne : cfg.wire.opcReadSn ≠ cfg.wire.opcMeasHp := by
    rw [Machine.conforms_wire hc]
    decide
  refine ⟨Command.opcode_measureHighPrecision hc, Command.opcode_readSerialNumber hc,
    fun c d h => Command.opcode_injective hne h, fun c => ?_⟩
  cases c with
  | measureHighPrecision => exact .inl rfl
  | readSerialNumber => exact .inr rfl

/-- Settles O2: the three rows of the table. -/
theorem operationsSendTheirCommand : Obligations.OperationsSendTheirCommand :=
  ⟨rfl, rfl, rfl⟩

end Sys2Proof

namespace Sys2Proof.Machine

/-! ### A wire command on its own (R103, R105, R106) -/

/-- A byte that a cell can list is read back where it was written, whether or not the memory is canonical. -/
theorem Memory.read_write_same_of_ne_unlisted (m : Memory) (a : Nat) {v : Byte} (hv : v ≠ Memory.unlisted) :
    Memory.read (Memory.write m a v) a = v := by
  induction m with
  | nil => simp [Memory.write, Memory.read, hv]
  | cons c rest ih =>
    obtain ⟨k, w⟩ := c
    simp only [Memory.write, hv, if_false]
    split
    · simp [Memory.read]
    · split
      · simp [Memory.read]
      · rename_i hk
        simp only [Memory.read, Ne.symm hk, if_false, ih]

/-- A wire command is the staging of its command wherever no exchange is in flight. -/
theorem exec_commandInstr {s : State} (c : Command) (hp : s.phase ≠ .xferWait) :
    exec c.instr s = outcomeOf (stage c s) := by
  have hfree : s.phase = .idle ∨ s.phase = .attachWait := by cases h : s.phase <;> simp_all
  cases c with
  | measureHighPrecision => obtain h | h := hfree <;> simp only [Command.instr, exec, execMeasHp, h]
  | readSerialNumber => obtain h | h := hfree <;> simp only [Command.instr, exec, execReadSn, h]

/-- A wire command in a conforming block leaves its opcode at offset 0, the exchange requested and waited for, and
nothing else changed. -/
theorem exec_commandInstr_stages {s : State} {c : Command} {v : Byte} (hc : s.cfg.conforms = true)
    (hp : s.phase ≠ .xferWait) (hop : Command.opcode s.cfg c = v) (hv : v ≠ Memory.unlisted) :
    ∃ t, exec c.instr s = .next t ∧ Memory.read t.scratch 0 = v ∧
      t = { s with
        scratch := Memory.write s.scratch 0 v
        phase := .xferWait
        sent := s.sent ++ [.xfer s.devh [v] 6 s.tmo] } := by
  have hlen : s.cfg.wire.respLen = 6 := by rw [conforms_wire hc]
  refine ⟨staged c s, ?_, ?_, ?_⟩
  · rw [exec_commandInstr c hp, stage_ok c hc]
    rfl
  · subst hop
    exact Memory.read_write_same_of_ne_unlisted s.scratch 0 hv
  · rw [← hop, ← hlen]
    rfl

/-- Settles O29: both opcodes are bytes that a cell can list. -/
theorem wireCommandsStageTheirOpcode : Obligations.WireCommandsStageTheirOpcode := fun _ hc hp =>
  ⟨exec_commandInstr_stages hc hp (Command.opcode_measureHighPrecision hc) (by decide),
    exec_commandInstr_stages hc hp (Command.opcode_readSerialNumber hc) (by decide)⟩

/-! ### A wire command inside the step that starts its exchange (R103, R162, R166, R172) -/

/-- An idle block starts the operation of a legal request with the last result cleared. -/
theorem acceptRequest_of_idle {s : State} (start : State → Except Fault State) (h : s.phase = .idle) :
    acceptRequest true start s = outcomeOf (start (clearResult s)) := by
  simp only [acceptRequest, h, if_true]

/-- A legal read of an idle block is the wire command of its operation, once accepted and latched. -/
theorem acceptRequest_startExchange {s : State} (o : Opr) (timeout : Timeout) (h : s.phase = .idle) :
    acceptRequest true (startExchange o timeout) s = exec o.command.instr (latch o timeout (clearResult s)) := by
  have hp : (latch o timeout (clearResult s)).phase ≠ .xferWait := by simp [h]
  rw [acceptRequest_of_idle _ h, exec_commandInstr _ hp]
  rfl

theorem takeInput_attachOk {s : State} {d : DevHandle} (hd : fitsWidth s.cfg.devhW d.token = true) :
    takeInput (.attachOk d) s = onAttachOk d s :=
  if_pos hd

/-- An accepted attach that the block waits for is `READ_SN` with the new handle. -/
theorem onAttachOk_of_attachWait {s : State} (d : DevHandle) (h : s.phase = .attachWait) :
    onAttachOk d s = exec .readSn (setDevh d s) := by
  have hp : (setDevh d s).phase ≠ .xferWait := by simp [h]
  simp only [onAttachOk, h]
  exact (exec_commandInstr .readSerialNumber hp).symm

/-- Settles O34: a legal read and an accepted attach both stage their command where no exchange is in flight. -/
theorem startedExchangesRunTheirWireCommand : Obligations.StartedExchangesRunTheirWireCommand := by
  refine ⟨fun s timeout hidle hready => ?_, fun s d rest hwait hin hfits => ?_⟩
  · simp only [exec, execReadMeasurement, execReadSerialNumber, hready]
    exact ⟨acceptRequest_startExchange .meas timeout hidle, acceptRequest_startExchange .rdsn timeout hidle⟩
  · calc step s = takeInput (.attachOk d) (dequeue rest s) := step_eq_takeInput hin
      _ = onAttachOk d (dequeue rest s) := takeInput_attachOk hfits
      _ = exec .readSn (setDevh d (dequeue rest s)) := onAttachOk_of_attachWait d hwait

end Sys2Proof.Machine
end

section
/-! PROOFS. The family of 41_word_deserializer.md: DES on the machine's own `SCRATCH` (R111, R112), the assembly of the
serial number (R114), and the serializer of the sensor's side with its way back (R115). -/

namespace Sys2Proof.Machine

/-! ### The deserializer (R111, R112) -/

/-- DES answers the two words and check bytes of the six bytes that stand at offsets 0 to 5. -/
theorem deserialize_ok {s : State} (h : s.cfg.wire.scratchLen = 6) :
    deserialize s = .ok (wordsOf ⟨Memory.read s.scratch 0, Memory.read s.scratch 1, Memory.read s.scratch 2,
      Memory.read s.scratch 3, Memory.read s.scratch 4, Memory.read s.scratch 5⟩) := by
  simp [deserialize, readWord_ok, readByte_ok, h, wordsOf]

/-- Settles O9: each word is the two-byte read that its access makes inside the six offsets. -/
theorem deserializerAssemblesBigEndianWords : Obligations.DeserializerAssemblesBigEndianWords := by
  intro s hc
  have hlen : s.cfg.wire.scratchLen = 6 := conforms_scratchLen hc
  exact ⟨_, deserialize_ok hlen, rfl, rfl, readWord_ok (by omega), readWord_ok (by omega), rfl, rfl⟩

/-! ### Words and their bytes (R53) -/

/-- A word is its two bytes, the high byte first. -/
theorem highByte_append_lowByte (w : Word16) : highByte w ++ lowByte w = w :=
  (extractLsb'_append_lower_byte 0 8 w).trans BitVec.extractLsb'_eq_self

/-! ### The serial number (R114) -/

/-- The shift and the disjunction set the two words side by side: no bit is lost and none overlap. -/
theorem assembleSerial_eq_append (w0 w1 : Word16) : assembleSerial w0 w1 = w0 ++ w1 :=
  calc assembleSerial w0 w1
    _ = (w0 ++ w1).setWidth 32 := BitVec.setWidth_append_eq_shiftLeft_setWidth_or.symm
    _ = w0 ++ w1 := BitVec.setWidth_eq _

/-- The serial number in the order its four data bytes arrive. -/
theorem assembleSerial_eq_bytes (w0 w1 : Word16) :
    assembleSerial w0 w1 = highByte w0 ++ lowByte w0 ++ highByte w1 ++ lowByte w1 :=
  calc assembleSerial w0 w1
    _ = w0 ++ w1 := assembleSerial_eq_append w0 w1
    _ = (highByte w0 ++ lowByte w0) ++ (highByte w1 ++ lowByte w1) := by simp only [highByte_append_lowByte]
    _ = highByte w0 ++ lowByte w0 ++ highByte w1 ++ lowByte w1 := BitVec.append_assoc'

/-- Settles O10: the halves of the serial number are those of the two words side by side. -/
theorem serialNumberIsHighWordFirst : Obligations.SerialNumberIsHighWordFirst := by
  refine ⟨fun w0 w1 => ⟨?_, ?_, assembleSerial_eq_bytes w0 w1⟩, by decide⟩
  · rw [assembleSerial_eq_append]
    exact BitVec.extractLsb'_append_eq_left
  · rw [assembleSerial_eq_append]
    exact BitVec.extractLsb'_append_eq_right

/-! ### The serializer and its way back (R115) -/

/-- Deserializing a serialized response gives its words, each with the check byte of its own two bytes. -/
theorem wordsOf_serialize (f : CrcFunction) (w0 w1 : Word16) :
    wordsOf (serialize f w0 w1) =
      ⟨w0, crc8 f (highByte w0) (lowByte w0), w1, crc8 f (highByte w1) (lowByte w1)⟩ := by
  simp only [wordsOf, serialize, highByte_append_lowByte]

theorem pass_wordsOf_serialize (f : CrcFunction) (w0 w1 : Word16) : (wordsOf (serialize f w0 w1)).pass f = true :=
  (pass_wordsOf f _).mpr ⟨rfl, rfl⟩

/-- Settles O11: a response that passes leaves `CRCFAIL` clear. -/
theorem serializedResponseComesBackAndPasses : Obligations.SerializedResponseComesBackAndPasses := by
  intro f w0 w1
  have hpass : (wordsOf (serialize f w0 w1)).pass f = true := pass_wordsOf_serialize f w0 w1
  refine ⟨rfl, ?_, ?_, hpass, crcfail_of_pass f _ hpass⟩
  · rw [wordsOf_serialize]
  · rw [wordsOf_serialize]

end Sys2Proof.Machine
end

section
/-! PROOFS. The family of 42_crc8_validator.md: the CRC is affine in its input (R124), the one check byte that passes
(R128), the errors the default CRC detects (R130), and the mandate of the check (R131). -/

namespace Sys2Proof.Machine

/-! ### The loop of R122 is linear, under any polynomial -/

/-- The shift step without its branch: the polynomial comes in as often as bit 7 leaves. -/
theorem crcShift_eq_xor (poly c : Byte) : crcShift poly c = c <<< 1 ^^^ (if c.getLsbD 7 then poly else 0#8) := by
  unfold crcShift
  split <;> simp

theorem crcShift_xor (poly a b : Byte) : crcShift poly (a ^^^ b) = crcShift poly a ^^^ crcShift poly b := by
  have hpoly : ∀ p q : Bool,
      (if (p ^^ q) then poly else 0#8) = (if p then poly else 0#8) ^^^ (if q then poly else 0#8) := fun p q => by
    cases p <;> cases q <;> simp
  rw [crcShift_eq_xor, crcShift_eq_xor, crcShift_eq_xor, BitVec.shiftLeft_xor_distrib, BitVec.getLsbD_xor, hpoly]
  ac_rfl

@[simp] theorem crcShift_zero (poly : Byte) : crcShift poly 0#8 = 0#8 := by
  simp [crcShift]

theorem crcShifts_xor (poly : Byte) (n : Nat) (a b : Byte) :
    crcShifts poly n (a ^^^ b) = crcShifts poly n a ^^^ crcShifts poly n b := by
  induction n generalizing a b with
  | zero => rfl
  | succ k ih => simp only [crcShifts, crcShift_xor, ih]

@[simp] theorem crcShifts_zero (poly : Byte) (n : Nat) : crcShifts poly n 0#8 = 0#8 := by
  induction n with
  | zero => rfl
  | succ k ih => rw [crcShifts, crcShift_zero, ih]

/-- One more shift step may come first or last. -/
theorem crcShifts_crcShift (poly : Byte) (n : Nat) (c : Byte) :
    crcShifts poly n (crcShift poly c) = crcShift poly (crcShifts poly n c) := by
  induction n generalizing c with
  | zero => rfl
  | succ k ih => simp only [crcShifts, ih]

theorem crcShifts_crcShifts (poly : Byte) (m n : Nat) (c : Byte) :
    crcShifts poly m (crcShifts poly n c) = crcShifts poly (n + m) c := by
  induction n generalizing c with
  | zero => rw [Nat.zero_add, crcShifts]
  | succ k ih => rw [Nat.succ_add, crcShifts, crcShifts, ih]

theorem crcByte_xor (poly c d a b : Byte) :
    crcByte poly (c ^^^ d) (a ^^^ b) = crcByte poly c a ^^^ crcByte poly d b := by
  have hswap : c ^^^ d ^^^ (a ^^^ b) = c ^^^ a ^^^ (d ^^^ b) := by ac_rfl
  rw [crcByte, hswap, crcShifts_xor, crcByte, crcByte]

/-- Registers and messages of one length add up (R124). -/
theorem crcRun_xor (poly c d : Byte) {as bs : List Byte} (h : as.length = bs.length) :
    crcRun poly (c ^^^ d) (List.zipWith (· ^^^ ·) as bs) = crcRun poly c as ^^^ crcRun poly d bs := by
  induction as generalizing c d bs with
  | nil =>
    cases List.length_eq_zero_iff.mp h.symm
    rfl
  | cons a as ih =>
    cases bs with
    | nil => cases h
    | cons b bs =>
      simp only [List.zipWith_cons_cons, crcRun, crcByte_xor]
      exact ih _ _ (Nat.succ.inj h)

/-! ### The CRC is affine in its input (R124) -/

/-- Without reflection and final XOR the CRC is the loop over the word's two bytes. -/
theorem crc8_bitSerial (seed hi lo : Byte) :
    crc8 (.bitSerial { init := seed }) hi lo = crcRun 0x31#8 seed [hi, lo] :=
  BitVec.xor_zero

/-- Two inputs added up, each with its own seed, give their CRCs added up. -/
theorem crc8_xor (i j a b e f : Byte) :
    crc8 (.bitSerial { init := i ^^^ j }) (a ^^^ e) (b ^^^ f) =
      crc8 (.bitSerial { init := i }) a b ^^^ crc8 (.bitSerial { init := j }) e f := by
  simp only [crc8_bitSerial]
  exact crcRun_xor 0x31#8 i j (as := [a, b]) (bs := [e, f]) rfl

/-- Settles O12: the seed `0xFF` is one more input that adds up, and on the word 0 it leaves `0x81`. -/
theorem crcIsAffineInItsInput : Obligations.CrcIsAffineInItsInput := by
  intro a b e f
  have hzero : crc8 (.bitSerial {}) 0 0 = 0x81#8 := by decide +kernel
  refine ⟨hzero, ?_, crc8_xor 0 0 a b e f, crc8_xor 0xFF 0 a b e f⟩
  rw [← hzero]
  simpa using crc8_xor 0 0xFF a b 0 0

/-! ### The one check byte that passes (R128) -/

theorem wordOk_append (f : CrcFunction) (hi lo chk : Byte) :
    wordOk f (hi ++ lo) chk = true ↔ crc8 f hi lo = chk := by
  simp [wordOk]

/-- Under an odd polynomial a shift step loses nothing: bit 0 tells whether bit 7 left. -/
theorem crcShift_eq_zero {poly c : Byte} (hodd : poly.getLsbD 0 = true) (h : crcShift poly c = 0#8) : c = 0#8 := by
  have hbit : ∀ i, (crcShift poly c).getLsbD i = false := by simp [h]
  have h7 : c.getLsbD 7 = false := by
    have h0 := hbit 0
    rw [crcShift_eq_xor] at h0
    split at h0 <;> simp_all
  apply BitVec.eq_of_getLsbD_eq
  intro i hi
  rw [BitVec.getLsbD_zero]
  rcases Nat.lt_or_ge i 7 with hlt | hge
  · have hnext := hbit (i + 1)
    rw [crcShift_eq_xor, h7] at hnext
    simpa [BitVec.getLsbD_shiftLeft, show i + 1 < 8 by omega, -BitVec.getLsbD_eq_getElem] using hnext
  · rwa [show i = 7 by omega]

theorem crcShifts_eq_zero_iff {poly : Byte} (hodd : poly.getLsbD 0 = true) (n : Nat) (c : Byte) :
    crcShifts poly n c = 0#8 ↔ c = 0#8 := by
  refine ⟨fun h => ?_, fun h => by rw [h, crcShifts_zero]⟩
  induction n generalizing c with
  | zero => exact h
  | succ k ih => exact crcShift_eq_zero hodd (ih _ h)

/-- The loop over a group ends in zero exactly when its check byte is what the loop leaves after its word. -/
theorem crcRun_group_eq_zero_iff {poly : Byte} (hodd : poly.getLsbD 0 = true) (seed hi lo chk : Byte) :
    crcRun poly seed [hi, lo, chk] = 0#8 ↔ crcRun poly seed [hi, lo] = chk :=
  (crcShifts_eq_zero_iff hodd 8 _).trans BitVec.xor_eq_zero_iff

theorem crc8_eq_iff_residue (hi lo chk : Byte) :
    crc8 (.bitSerial {}) hi lo = chk ↔ crcRun 0x31#8 0xFF#8 [hi, lo, chk] = 0#8 := by
  rw [crc8_bitSerial, crcRun_group_eq_zero_iff (by decide)]

/-- Settles O13: the check compares with one byte, and the default polynomial is odd. -/
theorem exactlyOneCheckBytePasses : Obligations.ExactlyOneCheckBytePasses := by
  refine ⟨fun f hi lo => ?_, fun hi lo chk => ?_⟩
  · have hpass : wordOk f (hi ++ lo) (crc8 f hi lo) = true := (wordOk_append f hi lo _).mpr rfl
    exact ⟨hpass, _, hpass, fun chk h => ((wordOk_append f hi lo chk).mp h).symm⟩
  · exact (wordOk_append _ hi lo chk).trans (crc8_eq_iff_residue hi lo chk)

/-! ### The syndrome of an error pattern (R124, R130) -/

/-- The three bytes of a group in wire order. -/
def groupBytes (g : BitVec 24) : List Byte := [g.extractLsb' 16 8, g.extractLsb' 8 8, g.extractLsb' 0 8]

/-- What an error pattern adds to the residue of a group: the loop with seed 0 over its bytes, under the default
polynomial. -/
def syndrome (e : BitVec 24) : Byte := crcRun 0x31#8 0#8 (groupBytes e)

theorem groupPasses_iff (g : BitVec 24) : groupPasses g = true ↔ crcRun 0x31#8 0xFF#8 (groupBytes g) = 0#8 :=
  decide_eq_true_iff.trans (crc8_eq_iff_residue _ _ _)

theorem groupBytes_xor (a b : BitVec 24) :
    groupBytes (a ^^^ b) = List.zipWith (· ^^^ ·) (groupBytes a) (groupBytes b) := by
  simp [groupBytes, BitVec.extractLsb'_xor]

theorem syndrome_xor (a b : BitVec 24) : syndrome (a ^^^ b) = syndrome a ^^^ syndrome b := by
  unfold syndrome
  rw [groupBytes_xor]
  exact crcRun_xor 0x31#8 0 0 rfl

/-- Whether an error in a passing group is detected does not depend on the group. -/
theorem groupPasses_xor {g : BitVec 24} (e : BitVec 24) (h : groupPasses g = true) :
    groupPasses (g ^^^ e) = true ↔ syndrome e = 0#8 := by
  have hsum := crcRun_xor 0x31#8 0xFF#8 0#8 (as := groupBytes g) (bs := groupBytes e) rfl
  rw [(groupPasses_iff g).mp h, BitVec.zero_xor, ← groupBytes_xor] at hsum
  rw [groupPasses_iff, syndrome, ← hsum, BitVec.xor_zero]

theorem groupPasses_xor_eq_false {g e : BitVec 24} (h : groupPasses g = true) (he : syndrome e ≠ 0#8) :
    groupPasses (g ^^^ e) = false :=
  Bool.eq_false_iff.mpr (mt (groupPasses_xor e h).mp he)

/-! ### The syndrome of a shifted error pattern -/

/-- A bit as the lowest bit of a byte. -/
def bitByte (b : Bool) : Byte := if b then 1#8 else 0#8

/-- The first bit of a message on the wire. -/
def leadingBit (bs : List Byte) : Bool :=
  match bs with
  | [] => false
  | b :: _ => b.getLsbD 7

/-- A message moved one bit to the left: each byte takes in the leading bit of the bytes that follow it. -/
def shiftedBytes (bs : List Byte) : List Byte :=
  match bs with
  | [] => []
  | b :: rest => (b <<< 1 ^^^ bitByte (leadingBit rest)) :: shiftedBytes rest

/-- Eight shift steps bring a lowest bit to the top and out. -/
theorem crcShifts_eight_bitByte (b : Bool) : crcShifts 0x31#8 8 (bitByte b) = if b then 0x31#8 else 0#8 := by
  cases b <;> decide

theorem shiftLeft_one_eq (c : Byte) :
    c <<< 1 = crcShift 0x31#8 c ^^^ crcShifts 0x31#8 8 (bitByte (c.getLsbD 7)) := by
  rw [crcShifts_eight_bitByte, crcShift_eq_xor, BitVec.xor_assoc, BitVec.xor_self, BitVec.xor_zero]

/-- The loop over a message moved one bit to the left is one shift step ahead of the loop over the message, once the
bit that has left the message has been put into the register. -/
theorem crcRun_shiftedBytes (c : Byte) (bs : List Byte) :
    crcRun 0x31#8 (crcShift 0x31#8 c ^^^ crcShifts 0x31#8 8 (bitByte (leadingBit bs))) (shiftedBytes bs) =
      crcShift 0x31#8 (crcRun 0x31#8 c bs) := by
  induction bs generalizing c with
  | nil => simp [shiftedBytes, leadingBit, crcRun, bitByte]
  | cons b rest ih =>
    have hcancel : ∀ x y z w : Byte, x ^^^ y ^^^ (z ^^^ y ^^^ w) = x ^^^ z ^^^ w := fun x y z w =>
      calc x ^^^ y ^^^ (z ^^^ y ^^^ w) = x ^^^ z ^^^ w ^^^ (y ^^^ y) := by ac_rfl
        _ = x ^^^ z ^^^ w := by rw [BitVec.xor_self, BitVec.xor_zero]
    have hstep : crcByte 0x31#8 (crcShift 0x31#8 c ^^^ crcShifts 0x31#8 8 (bitByte (b.getLsbD 7)))
          (b <<< 1 ^^^ bitByte (leadingBit rest)) =
        crcShift 0x31#8 (crcByte 0x31#8 c b) ^^^ crcShifts 0x31#8 8 (bitByte (leadingBit rest)) := by
      rw [shiftLeft_one_eq b, crcByte, hcancel, ← crcShift_xor, crcShifts_xor, crcShifts_crcShift, crcByte]
    calc crcRun 0x31#8 (crcShift 0x31#8 c ^^^ crcShifts 0x31#8 8 (bitByte (b.getLsbD 7))) (shiftedBytes (b :: rest))
      _ = crcRun 0x31#8 (crcByte 0x31#8 (crcShift 0x31#8 c ^^^ crcShifts 0x31#8 8 (bitByte (b.getLsbD 7)))
            (b <<< 1 ^^^ bitByte (leadingBit rest))) (shiftedBytes rest) := rfl
      _ = crcShift 0x31#8 (crcRun 0x31#8 (crcByte 0x31#8 c b) rest) := by rw [hstep, ih]

theorem getLsbD_bitByte (b : Bool) (i : Nat) : (bitByte b).getLsbD i = (decide (i = 0) && b) := by
  cases b <;> simp [bitByte, BitVec.getLsbD_one, -BitVec.getLsbD_eq_getElem]

/-- A byte of a shifted group takes in the leading bit of the byte below it. -/
theorem extractLsb'_shiftLeft_one (e : BitVec 24) (start : Nat) (h : start + 16 ≤ 24) :
    (e <<< 1).extractLsb' (start + 8) 8 =
      e.extractLsb' (start + 8) 8 <<< 1 ^^^ bitByte ((e.extractLsb' start 8).getLsbD 7) := by
  apply BitVec.eq_of_getLsbD_eq
  intro i hi
  simp only [BitVec.getLsbD_xor, BitVec.getLsbD_extractLsb', BitVec.getLsbD_shiftLeft, getLsbD_bitByte]
  cases i with
  | zero => simp [show start + 8 < 24 by omega]
  | succ k => simp [show k < 8 by omega, show start + 8 + (k + 1) < 24 by omega]

/-- The lowest byte of a shifted group takes in nothing. -/
theorem extractLsb'_zero_shiftLeft_one (e : BitVec 24) :
    (e <<< 1).extractLsb' 0 8 = e.extractLsb' 0 8 <<< 1 := by
  apply BitVec.eq_of_getLsbD_eq
  intro i hi
  simp only [BitVec.getLsbD_extractLsb', BitVec.getLsbD_shiftLeft, Nat.zero_add]
  simp [hi, show i < 24 by omega, show i - 1 < 8 by omega]

theorem groupBytes_shiftLeft_one (e : BitVec 24) : groupBytes (e <<< 1) = shiftedBytes (groupBytes e) := by
  simp only [groupBytes, shiftedBytes]
  rw [extractLsb'_shiftLeft_one e 8 (by omega), extractLsb'_shiftLeft_one e 0 (by omega),
    extractLsb'_zero_shiftLeft_one, show bitByte (leadingBit []) = 0#8 from rfl, BitVec.xor_zero]
  rfl

theorem syndrome_shiftLeft_one {e : BitVec 24} (h : e.getLsbD 23 = false) :
    syndrome (e <<< 1) = crcShift 0x31#8 (syndrome e) := by
  have hlead : leadingBit (groupBytes e) = false := by simpa [leadingBit, groupBytes] using h
  have hrun := crcRun_shiftedBytes 0#8 (groupBytes e)
  rw [hlead, ← groupBytes_shiftLeft_one] at hrun
  rwa [bitByte, if_neg Bool.false_ne_true, crcShift_zero, crcShifts_zero, BitVec.xor_zero] at hrun

/-- An error pattern moved to the left, no bit of which is lost. -/
theorem syndrome_shiftLeft {e : BitVec 24} (k : Nat) (h : ∀ i, 24 ≤ i + k → e.getLsbD i = false) :
    syndrome (e <<< k) = crcShifts 0x31#8 k (syndrome e) := by
  induction k with
  | zero => rw [BitVec.shiftLeft_zero, crcShifts]
  | succ k ih =>
    have htop : (e <<< k).getLsbD 23 = false := by
      rw [BitVec.getLsbD_shiftLeft]
      rcases Nat.lt_or_ge 23 k with hk | hk
      · simp [hk]
      · simp [h (23 - k) (by omega)]
    rw [BitVec.shiftLeft_add, syndrome_shiftLeft_one htop, ih fun i hi => h i (by omega), crcShifts, crcShifts_crcShift]

/-! ### Bursts (R130) -/

/-- A byte at the low end of a group is shifted through the register by itself. -/
theorem syndrome_setWidth (p : Byte) : syndrome (p.setWidth 24) = crcShifts 0x31#8 8 p := by
  have hbytes : groupBytes (p.setWidth 24) = [0#8, 0#8, p] := by
    have hhigh : ∀ start, 8 ≤ start → start ≤ 16 → (p.setWidth 24).extractLsb' start 8 = 0#8 := by
      intro start hlo hhi
      rw [BitVec.extractLsb'_setWidth_of_le (by omega)]
      apply BitVec.eq_of_getLsbD_eq
      intro i hi
      simp [BitVec.getLsbD_of_ge p (start + i) (by omega)]
    have hlow : (p.setWidth 24).extractLsb' 0 8 = p := by
      rw [BitVec.extractLsb'_setWidth_of_le (by omega), BitVec.extractLsb'_eq_self]
    rw [groupBytes, hhigh 16 (by omega) (by omega), hhigh 8 (by omega) (by omega), hlow]
  simp [syndrome, hbytes, crcRun, crcByte]

/-- A byte anywhere in a group is the byte at the low end, shifted further. -/
theorem syndrome_burst (p : Byte) {k : Nat} (h : k ≤ 16) :
    syndrome (p.setWidth 24 <<< k) = crcShifts 0x31#8 (8 + k) p := by
  rw [syndrome_shiftLeft k fun i hi => ?_, syndrome_setWidth, crcShifts_crcShifts]
  rw [BitVec.getLsbD_setWidth, BitVec.getLsbD_of_ge p i (by omega), Bool.and_false]

/-- Settles O16: the shift step loses nothing, so no nonzero byte is shifted to zero. -/
theorem burstsOfEightBitsAreDetected : Obligations.BurstsOfEightBitsAreDetected := by
  intro g p k hg hp hk
  refine groupPasses_xor_eq_false hg fun he => hp ?_
  rwa [syndrome_burst p hk, crcShifts_eq_zero_iff (by decide)] at he

/-! ### Flipped bits (R130) -/

/-- A single flipped bit is the lowest one, shifted to its place. -/
theorem syndrome_twoPow {i : Nat} (h : i < 24) : syndrome (BitVec.twoPow 24 i) = crcShifts 0x31#8 (8 + i) 1#8 := by
  have hone : syndrome 1#24 = crcShifts 0x31#8 8 1#8 := syndrome_setWidth 1#8
  rw [BitVec.twoPow_eq, syndrome_shiftLeft i fun j hj => ?_, hone, crcShifts_crcShifts]
  simp [BitVec.getLsbD_one, show j ≠ 0 by omega, -BitVec.getLsbD_eq_getElem]

/-- The flipped bits are counted by their positions. -/
theorem flippedBits_eq_card (n : Nat) (e : BitVec 24) :
    flippedBits n e = ((Finset.range n).filter fun i => e.getLsbD i = true).card := by
  rw [Finset.card_filter]
  induction n with
  | zero => rfl
  | succ k ih => rw [flippedBits, Finset.sum_range_succ, ih, Nat.add_comm]

theorem eq_zero_of_flippedBits {e : BitVec 24} (h : flippedBits 24 e = 0) : e = 0#24 := by
  rw [flippedBits_eq_card, Finset.card_eq_zero, Finset.filter_eq_empty_iff] at h
  apply BitVec.eq_of_getLsbD_eq
  intro i hi
  rw [BitVec.getLsbD_zero]
  exact Bool.eq_false_iff.mpr (h (Finset.mem_range.mpr hi))

/-- A pattern with a flipped bit is a pattern with one fewer, in which that bit is clear, and that bit. -/
theorem exists_twoPow_of_flippedBits {e : BitVec 24} {n : Nat} (h : flippedBits 24 e = n + 1) :
    ∃ e' i, i < 24 ∧ e'.getLsbD i = false ∧ flippedBits 24 e' = n ∧ e = e' ^^^ BitVec.twoPow 24 i := by
  have hpos : 0 < flippedBits 24 e := by omega
  rw [flippedBits_eq_card, Finset.card_pos] at hpos
  obtain ⟨i, hmem⟩ := hpos
  have hi := Finset.mem_range.mp (Finset.mem_of_mem_filter i hmem)
  have hset : e.getLsbD i = true := (Finset.mem_filter.mp hmem).2
  refine ⟨e ^^^ BitVec.twoPow 24 i, i, hi, ?_, ?_, ?_⟩
  · simp [hset, hi, BitVec.getLsbD_twoPow, -BitVec.getLsbD_eq_getElem]
  · rw [flippedBits_eq_card] at h ⊢
    rw [← Nat.add_sub_cancel n 1, ← h, ← Finset.card_erase_of_mem hmem]
    congr 1
    ext j
    rcases eq_or_ne j i with rfl | hne
    · simp [hset, hi, BitVec.getLsbD_twoPow, -BitVec.getLsbD_eq_getElem]
    · simp [hne, hne.symm, BitVec.getLsbD_twoPow, -BitVec.getLsbD_eq_getElem]
  · rw [BitVec.xor_assoc, BitVec.xor_self, BitVec.xor_zero]

/-! ### Parity -/

/-- An odd number of the lowest `n` bits of a byte are set. -/
def oddParity (n : Nat) (b : Byte) : Bool :=
  match n with
  | 0 => false
  | k + 1 => b.getLsbD k ^^ oddParity k b

theorem oddParity_xor (n : Nat) (a b : Byte) : oddParity n (a ^^^ b) = (oddParity n a ^^ oddParity n b) := by
  induction n with
  | zero => rfl
  | succ k ih =>
    simp only [oddParity, BitVec.getLsbD_xor, ih, Bool.xor_assoc, Bool.xor_left_comm]

theorem oddParity_shiftLeft_one {n : Nat} (b : Byte) (h : n < 8) : oddParity (n + 1) (b <<< 1) = oddParity n b := by
  induction n with
  | zero => simp [oddParity]
  | succ k ih =>
    rw [oddParity, ih (by omega), oddParity, BitVec.getLsbD_shiftLeft]
    simp [h]

/-- A shift step keeps the parity of the register: the polynomial with its x^8 term has an even number of terms. -/
theorem oddParity_crcShift (c : Byte) : oddParity 8 (crcShift 0x31#8 c) = oddParity 8 c := by
  have hpoly : ∀ b : Bool, oddParity 8 (if b then 0x31#8 else 0#8) = b := by decide
  rw [crcShift_eq_xor, oddParity_xor, hpoly, oddParity_shiftLeft_one c (by omega), Bool.xor_comm, ← oddParity]

theorem oddParity_crcShifts (n : Nat) (c : Byte) : oddParity 8 (crcShifts 0x31#8 n c) = oddParity 8 c := by
  induction n generalizing c with
  | zero => rfl
  | succ k ih => rw [crcShifts, ih, oddParity_crcShift]

/-- The syndrome has the parity of the error pattern. -/
theorem oddParity_syndrome {n : Nat} {e : BitVec 24} (h : flippedBits 24 e = n) :
    oddParity 8 (syndrome e) = decide (n % 2 = 1) := by
  induction n generalizing e with
  | zero =>
    rw [eq_zero_of_flippedBits h]
    decide +kernel
  | succ k ih =>
    obtain ⟨e', i, hi, -, hk, rfl⟩ := exists_twoPow_of_flippedBits h
    have hone : oddParity 8 1#8 = true := by decide
    rw [syndrome_xor, oddParity_xor, ih hk, syndrome_twoPow hi, oddParity_crcShifts, hone]
    rcases Nat.mod_two_eq_zero_or_one k with hm | hm <;> simp [hm, Nat.add_mod]

/-- Settles O15: a syndrome of odd parity is not zero. -/
theorem oddNumbersOfFlippedBitsAreDetected : Obligations.OddNumbersOfFlippedBitsAreDetected := by
  intro g e hg hodd
  refine groupPasses_xor_eq_false hg fun he => ?_
  have hpar := oddParity_syndrome (e := e) rfl
  rw [he, hodd] at hpar
  exact absurd hpar (by decide)

/-! ### Two flipped bits -/

/-- The shift step has no cycle of fewer than 24 steps through the lowest bit. -/
theorem crcShifts_one_ne_one {d : Nat} (hpos : 0 < d) (h : d < 24) : crcShifts 0x31#8 d 1#8 ≠ 1#8 := by
  have hall : ∀ d < 24, 0 < d → crcShifts 0x31#8 d 1#8 ≠ 1#8 := by decide +kernel
  exact hall d h hpos

/-- Two single flips at different places have different syndromes. -/
theorem syndrome_twoPow_ne {i j : Nat} (hij : i < j) (hj : j < 24) :
    syndrome (BitVec.twoPow 24 i) ≠ syndrome (BitVec.twoPow 24 j) := by
  rw [syndrome_twoPow (hij.trans hj), syndrome_twoPow hj, ← BitVec.xor_eq_zero_iff.ne]
  have hsplit : 8 + j = j - i + (8 + i) := by omega
  rw [hsplit, ← crcShifts_crcShifts _ (8 + i) (j - i), ← crcShifts_xor, Ne,
    crcShifts_eq_zero_iff (by decide), BitVec.xor_eq_zero_iff]
  exact (crcShifts_one_ne_one (by omega) (by omega)).symm

theorem syndrome_ne_zero_of_two {e : BitVec 24} (h : flippedBits 24 e = 2) : syndrome e ≠ 0#8 := by
  obtain ⟨e', i, hi, hclear, h1, rfl⟩ := exists_twoPow_of_flippedBits h
  obtain ⟨e'', j, hj, -, h0, rfl⟩ := exists_twoPow_of_flippedBits h1
  cases eq_zero_of_flippedBits h0
  rw [BitVec.zero_xor] at hclear ⊢
  have hne : j ≠ i := by
    rintro rfl
    simp [BitVec.getLsbD_twoPow, hj, -BitVec.getLsbD_eq_getElem] at hclear
  rw [syndrome_xor, Ne, BitVec.xor_eq_zero_iff]
  rcases Nat.lt_or_gt_of_ne hne with hlt | hgt
  · exact syndrome_twoPow_ne hlt hi
  · exact (syndrome_twoPow_ne hgt hj).symm

/-- Settles O14: one and three flips are an odd number, and two flips have different syndromes. -/
theorem upToThreeFlippedBitsAreDetected : Obligations.UpToThreeFlippedBitsAreDetected := by
  intro g e hg hlo hhi
  by_cases h : flippedBits 24 e = 2
  · exact groupPasses_xor_eq_false hg (syndrome_ne_zero_of_two h)
  · exact oddNumbersOfFlippedBitsAreDetected g e hg (by omega)

/-! ### The mandate (R131) -/

/-- From `s` to `t` no word has reached a result register and no result has become valid. -/
def KeepsResults (s t : State) : Prop :=
  t.tempQ16 = s.tempQ16 ∧ t.rhQ16 = s.rhQ16 ∧ t.serial = s.serial ∧ (t.resKind = s.resKind ∨ t.resKind = .none)

theorem keepsResults_staged (c : Command) (s : State) : KeepsResults s (staged c s) := ⟨rfl, rfl, rfl, .inl rfl⟩

theorem keepsResults_raiseWith (k : StatusKind) (e : ErrCode) (s : State) : KeepsResults s (raiseWith k e s) :=
  ⟨rfl, rfl, rfl, .inr rfl⟩

/-- A request writes no result register, and what it leaves valid is nothing. -/
theorem keepsResults_onRequest {op : BitVec 2} {bus : BusHandle} {speed : Nat} {timeout : Timeout} {s t : State}
    (h : onRequest op bus speed timeout s = .next t) : KeepsResults s t := by
  obtain ⟨-, ⟨-, -, rfl⟩ | ⟨-, -, -, rfl⟩ | ⟨-, -, -, -, rfl⟩ | ⟨-, -, rfl⟩⟩ := onRequest_cases h
  all_goals exact ⟨rfl, rfl, rfl, .inr rfl⟩

/-- The end of an exchange writes a result only for a read whose words both pass. -/
theorem keepsResults_finishExchange (w : Words) (s : State) :
    KeepsResults s (finishExchange w s) ∨ s.opr ≠ .init ∧ w.pass s.cfg.crc = true := by
  rcases finishExchange_cases w s with ⟨e, -, -⟩ | ⟨-, -, e⟩ | ⟨hopr, hpass, -⟩ | ⟨hopr, hpass, -⟩
  · exact .inl (e ▸ ⟨rfl, rfl, rfl, .inr rfl⟩)
  · exact .inl (e ▸ ⟨rfl, rfl, rfl, .inr rfl⟩)
  · exact .inr ⟨by simp [hopr], hpass⟩
  · exact .inr ⟨by simp [hopr], hpass⟩

/-- An exchange with a failed check returns no data, and it is a `ChecksumError` but for an `initialize` that a failed
check does not end (R164). -/
theorem finishExchange_of_not_pass {w : Words} {s : State} (h : w.pass s.cfg.crc = false) :
    (finishExchange w s).resKind = .none ∧ (finishExchange w s).tempQ16 = s.tempQ16 ∧
    (finishExchange w s).rhQ16 = s.rhQ16 ∧ (finishExchange w s).serial = s.serial ∧
    ((finishExchange w s).status = s.cfg.codes.number .checksumError ∨
      s.opr = .init ∧ s.cfg.initCrcFatal = false) := by
  rcases finishExchange_cases w s with ⟨e, -, -⟩ | ⟨hopr, hpass, e⟩ | ⟨-, hpass, -⟩ | ⟨-, hpass, -⟩
  · rw [e]
    exact ⟨rfl, rfl, rfl, rfl, .inl rfl⟩
  · rw [e]
    exact ⟨rfl, rfl, rfl, rfl, .inr ⟨hopr, hpass.resolve_left (by simp [h])⟩⟩
  · simp [h] at hpass
  · simp [h] at hpass

/-- The state in which the operation in flight is finished: the response has left the inbox, it has landed and it has
been checked (R179). -/
def landed (r : Rsp48) (rest : List Input) (s : State) : State :=
  setCrcfail ((wordsOf r).crcfail s.cfg.crc) (setScratch (storeResponse r s.scratch) (dequeue rest s))

theorem eq_finishExchange_of_step_xferOk {s t : State} {r : Rsp48} {rest : List Input} (hc : s.cfg.conforms = true)
    (hm : Memory.wf s.cfg.wire.scratchLen s.scratch = true) (hin : s.inbox = .xferOk r :: rest)
    (h : step s = .next t) : t = finishExchange (wordsOf r) (landed r rest s) := by
  cases (step_xferOk hc hm (phase_of_step_xferOk hin h) hin).symm.trans h
  rfl

/-- A word reaches a result register by an `rst` edge, which leaves nothing valid, or by a successful transfer. -/
theorem step_keepsResults {s t : State} (h : step s = .next t) :
    KeepsResults s t ∨ (∃ rest, s.inbox = .rst :: rest ∧ t.resKind = .none) ∨
    ∃ r rest, s.inbox = .xferOk r :: rest := by
  rcases step_next_cases h with
    ⟨-, rfl⟩ | ⟨rest, hin, rfl⟩ | ⟨op, bus, speed, timeout, rest, -, hreq⟩ | ⟨d, rest, -, -, rfl⟩ |
    ⟨e, rest, -, -, rfl⟩ | ⟨r, rest, hin, -, -⟩ | ⟨e, rest, -, -, rfl⟩
  · exact .inl ⟨rfl, rfl, rfl, .inl rfl⟩
  · exact .inr (.inl ⟨rest, hin, rfl⟩)
  · exact .inl (keepsResults_onRequest (s := dequeue rest s) hreq)
  · exact .inl (keepsResults_staged _ (setDevh d (dequeue rest s)))
  · exact .inl (keepsResults_raiseWith _ e (dequeue rest s))
  · exact .inr (.inr ⟨r, rest, hin⟩)
  · exact .inl (keepsResults_raiseWith _ e (loseScratch (dequeue rest s)))

/-- Settles O56: of the steps only an `rst` edge and a successful transfer touch the results, and a transfer touches
them only where both its words pass. -/
theorem onlyValidatedWordsReachTheResults : Obligations.OnlyValidatedWordsReachTheResults := by
  intro s t hc hm h
  refine ⟨fun hchanged => ?_, fun r rest hin hfail => ?_⟩
  · have hwritten : ¬ KeepsResults s t := by
      rintro ⟨htemp, hrh, hserial, hkind⟩
      rcases hchanged with hne | hne | hne | ⟨hne, hvalid⟩
      · exact hne htemp
      · exact hne hrh
      · exact hne hserial
      · exact hkind.elim hne hvalid
    rcases step_keepsResults h with hkeep | hrst | ⟨r, rest, hin⟩
    · exact absurd hkeep hwritten
    · exact .inl hrst
    · cases eq_finishExchange_of_step_xferOk hc hm hin h
      obtain ⟨hopr, hpass⟩ := (keepsResults_finishExchange (wordsOf r) (landed r rest s)).resolve_left hwritten
      exact .inr ⟨r, rest, hin, hopr, (pass_wordsOf s.cfg.crc r).mp hpass⟩
  · cases eq_finishExchange_of_step_xferOk hc hm hin h
    exact finishExchange_of_not_pass (s := landed r rest s)
      (Bool.eq_false_iff.mpr (mt (pass_wordsOf s.cfg.crc r).mp hfail))

end Sys2Proof.Machine
end

section
/-! PROOFS. The family of 43_converter.md: the exact values (R137), the unclamped results as their floor in units of
1/65536 (R139, R144, R146), the clamps (R140, R141), and that no width is exceeded (R143). -/

namespace Sys2Proof.Machine

/-! ### A word as a number -/

theorem word16_toNat_le (t : Word16) : t.toNat ≤ 65535 := Nat.le_of_lt_succ t.isLt

theorem word16_cast_le (t : Word16) : (t.toNat : ℚ) ≤ 65535 := by
  exact_mod_cast word16_toNat_le t

/-! ### The converter under the conforming parameters (R7) -/

section
variable {cfg : Config} (hc : cfg.conforms = true) (t : Word16)
include hc

theorem exactTemp_eq : exactTemp cfg.conv t = -45 + 175 * (t.toNat : ℚ) / 65535 := by
  rw [conforms_conv hc]
  simp [exactTemp]

theorem exactRh_eq : exactRh cfg.conv t = -6 + 125 * (t.toNat : ℚ) / 65535 := by
  rw [conforms_conv hc]
  simp [exactRh]

theorem fixedOne_eq : fixedOne cfg.conv = 65536 := by
  rw [conforms_conv hc]
  norm_num [fixedOne]

theorem tempProduct_eq : tempProduct cfg.conv t = 11468800 * (t.toNat : Int) := by
  rw [tempProduct, fixedOne_eq hc, conforms_conv hc]
  norm_num

theorem rhProduct_eq : rhProduct cfg.conv t = 8192000 * (t.toNat : Int) := by
  rw [rhProduct, fixedOne_eq hc, conforms_conv hc]
  norm_num

/-- The block rounds down, after one division by `TICK_DIV`. -/
theorem quantise_eq (product : Int) : quantise cfg.conv.rounding product cfg.conv.tickDiv = product / 65535 := by
  rw [conforms_conv hc]
  rfl

theorem tempRaw_eq : tempRaw cfg.conv t = -2949120 + 11468800 * (t.toNat : Int) / 65535 := by
  rw [tempRaw, quantise_eq hc, tempProduct_eq hc, fixedOne_eq hc, conforms_conv hc]
  rfl

theorem rhRaw_eq : rhRaw cfg.conv t = -393216 + 8192000 * (t.toNat : Int) / 65535 := by
  rw [rhRaw, quantise_eq hc, rhProduct_eq hc, fixedOne_eq hc, conforms_conv hc]
  rfl

theorem resultWidth_eq : cfg.conv.resultWidth = 31 + 1 := by
  rw [conforms_conv hc]

theorem tempClamped_eq :
    tempClamped cfg.conv t = clampBelow 65536 cfg.conv.tMin (min (tempRaw cfg.conv t) 6553600) := by
  rw [tempClamped, fixedOne_eq hc, conforms_conv hc]
  rfl

theorem rhClamped_eq : rhClamped cfg.conv t = clampAbove 65536 cfg.conv.rhMax (max (rhRaw cfg.conv t) 0) := by
  rw [rhClamped, fixedOne_eq hc, conforms_conv hc]
  rfl

/-! ### No overflow (R143) -/

theorem tempProduct_bounds : 0 ≤ tempProduct cfg.conv t ∧ tempProduct cfg.conv t ≤ 11468800 * 65535 := by
  have ht := word16_toNat_le t
  rw [tempProduct_eq hc]
  omega

theorem rhProduct_bounds : 0 ≤ rhProduct cfg.conv t ∧ rhProduct cfg.conv t ≤ 8192000 * 65535 := by
  have ht := word16_toNat_le t
  rw [rhProduct_eq hc]
  omega

theorem tempRaw_bounds : -2949120 ≤ tempRaw cfg.conv t ∧ tempRaw cfg.conv t ≤ 8519680 := by
  have ht := word16_toNat_le t
  rw [tempRaw_eq hc]
  omega

theorem rhRaw_bounds : -393216 ≤ rhRaw cfg.conv t ∧ rhRaw cfg.conv t ≤ 7798784 := by
  have ht := word16_toNat_le t
  rw [rhRaw_eq hc]
  omega

theorem tMin_le {m : Int} (hm : cfg.conv.tMin = some m) : m ≤ 100 := by
  have hclamps := conforms_clamps hc
  simp only [ConvParams.clampsDoNotCross, hm, Bool.and_eq_true, decide_eq_true_eq] at hclamps
  exact hclamps.1

theorem rhMax_nonneg {m : Int} (hm : cfg.conv.rhMax = some m) : 0 ≤ m := by
  have hclamps := conforms_clamps hc
  simp only [ConvParams.clampsDoNotCross, hm, Bool.and_eq_true, decide_eq_true_eq] at hclamps
  exact hclamps.2

/-- The optional lower clamp can only raise the result, and by R141 not above the upper one. -/
theorem tempClamped_bounds : -2949120 ≤ tempClamped cfg.conv t ∧ tempClamped cfg.conv t ≤ 6553600 := by
  have hraw := tempRaw_bounds hc t
  rw [tempClamped_eq hc]
  cases hm : cfg.conv.tMin with
  | none =>
    simp only [clampBelow]
    omega
  | some m =>
    have hle := tMin_le hc hm
    simp only [clampBelow]
    omega

/-- The optional upper clamp can only lower the result, and by R141 not below the lower one. -/
theorem rhClamped_bounds : 0 ≤ rhClamped cfg.conv t ∧ rhClamped cfg.conv t ≤ 7798784 := by
  have hraw := rhRaw_bounds hc t
  rw [rhClamped_eq hc]
  cases hm : cfg.conv.rhMax with
  | none =>
    simp only [clampAbove]
    omega
  | some m =>
    have hnonneg := rhMax_nonneg hc hm
    simp only [clampAbove]
    omega

theorem convertTemp_toInt : (convertTemp cfg.conv t).toInt = tempClamped cfg.conv t := by
  obtain ⟨hlo, hhi⟩ := tempClamped_bounds hc t
  rw [convertTemp, resultWidth_eq hc]
  exact toInt_ofInt 31 _ (by omega) (by omega)

theorem convertRh_toInt : (convertRh cfg.conv t).toInt = rhClamped cfg.conv t := by
  obtain ⟨hlo, hhi⟩ := rhClamped_bounds hc t
  rw [convertRh, resultWidth_eq hc]
  exact toInt_ofInt 31 _ (by omega) (by omega)

/-! ### The result registers, with and without the optional clamps (R140, R141) -/

theorem convertTemp_toInt_of_none (hmin : cfg.conv.tMin = none) :
    (convertTemp cfg.conv t).toInt = min (tempRaw cfg.conv t) 6553600 := by
  rw [convertTemp_toInt hc, tempClamped_eq hc, hmin, clampBelow]

theorem convertRh_toInt_of_none (hmax : cfg.conv.rhMax = none) :
    (convertRh cfg.conv t).toInt = max (rhRaw cfg.conv t) 0 := by
  rw [convertRh_toInt hc, rhClamped_eq hc, hmax, clampAbove]

theorem convertTemp_toInt_of_some {m : Int} (hmin : cfg.conv.tMin = some m) :
    (convertTemp cfg.conv t).toInt = max (min (tempRaw cfg.conv t) 6553600) (m * 65536) := by
  rw [convertTemp_toInt hc, tempClamped_eq hc, hmin, clampBelow]

theorem convertRh_toInt_of_some {m : Int} (hmax : cfg.conv.rhMax = some m) :
    (convertRh cfg.conv t).toInt = min (max (rhRaw cfg.conv t) 0) (m * 65536) := by
  rw [convertRh_toInt hc, rhClamped_eq hc, hmax, clampAbove]

/-! ### The exact values in units of 1/65536 (R139) -/

/-- In units of 1/65536 the offset is an integer, so only the product's quotient is rounded. -/
theorem exactTemp_units :
    65536 * exactTemp cfg.conv t = (-2949120 : Int) + ((11468800 * t.toNat : Int) : ℚ) / (65535 : Nat) := by
  rw [exactTemp_eq hc]
  push_cast
  ring

theorem exactRh_units :
    65536 * exactRh cfg.conv t = (-393216 : Int) + ((8192000 * t.toNat : Int) : ℚ) / (65535 : Nat) := by
  rw [exactRh_eq hc]
  push_cast
  ring

theorem tempRaw_eq_floor : tempRaw cfg.conv t = ⌊65536 * exactTemp cfg.conv t⌋ := by
  rw [tempRaw_eq hc, exactTemp_units hc, Int.floor_intCast_add, Rat.floor_intCast_div_natCast]
  rfl

theorem rhRaw_eq_floor : rhRaw cfg.conv t = ⌊65536 * exactRh cfg.conv t⌋ := by
  rw [rhRaw_eq hc, exactRh_units hc, Int.floor_intCast_add, Rat.floor_intCast_div_natCast]
  rfl

/-! ### The quotient is exact where 65535 divides the product (R144) -/

theorem exactTemp_units_of_dvd (hdvd : 65535 ∣ 11468800 * t.toNat) :
    65536 * exactTemp cfg.conv t = (tempRaw cfg.conv t : ℚ) := by
  have hdvd' : (65535 : Int) ∣ 11468800 * t.toNat := by exact_mod_cast hdvd
  rw [exactTemp_units hc, tempRaw_eq hc, Int.cast_add, Int.cast_div_charZero hdvd']
  rfl

theorem exactRh_units_of_dvd (hdvd : 65535 ∣ 8192000 * t.toNat) :
    65536 * exactRh cfg.conv t = (rhRaw cfg.conv t : ℚ) := by
  have hdvd' : (65535 : Int) ∣ 8192000 * t.toNat := by exact_mod_cast hdvd
  rw [exactRh_units hc, rhRaw_eq hc, Int.cast_add, Int.cast_div_charZero hdvd']
  rfl

/-! ### Neighbouring words, and the words at which the clamps begin to act (R146) -/

/-- One tick is worth 175 units and a fraction. -/
theorem tempRaw_add_le {u : Word16} (htu : t.toNat < u.toNat) : tempRaw cfg.conv t + 175 ≤ tempRaw cfg.conv u := by
  rw [tempRaw_eq hc, tempRaw_eq hc]
  omega

/-- One tick is worth 125 units and a fraction. -/
theorem rhRaw_add_le {u : Word16} (htu : t.toNat < u.toNat) : rhRaw cfg.conv t + 125 ≤ rhRaw cfg.conv u := by
  rw [rhRaw_eq hc, rhRaw_eq hc]
  omega

theorem tempRaw_gt_max_iff : 6553600 < tempRaw cfg.conv t ↔ 54301 ≤ t.toNat := by
  rw [tempRaw_eq hc]
  omega

theorem rhRaw_neg_iff : rhRaw cfg.conv t < 0 ↔ t.toNat ≤ 3145 := by
  rw [rhRaw_eq hc]
  omega

end

/-! ### The error of a floor, and a floor under a clamp -/

/-- A value exceeds its floor in units of 1/65536 by less than one unit. -/
theorem floor_units_error (x : ℚ) :
    0 ≤ x - (⌊65536 * x⌋ : ℚ) / 65536 ∧ x - (⌊65536 * x⌋ : ℚ) / 65536 < 1 / 65536 := by
  have hle := Int.floor_le (65536 * x)
  have hlt := Int.lt_floor_add_one (65536 * x)
  constructor <;> linarith

/-- An upper bound of a whole number of units may be applied before the floor or after it. -/
theorem floor_units_min (x : ℚ) (b : Int) : ⌊65536 * min x b⌋ = min ⌊65536 * x⌋ (b * 65536) := by
  rw [mul_min_of_nonneg _ _ (by norm_num), Int.floor_mono.map_min, mul_comm b]
  congr 1
  exact_mod_cast Int.floor_intCast (R := ℚ) (65536 * b)

/-- So may a lower one. -/
theorem floor_units_max (x : ℚ) (b : Int) : ⌊65536 * max x b⌋ = max ⌊65536 * x⌋ (b * 65536) := by
  rw [mul_max_of_nonneg _ _ (by norm_num), Int.floor_mono.map_max, mul_comm b]
  congr 1
  exact_mod_cast Int.floor_intCast (R := ℚ) (65536 * b)

/-! ### The statements -/

/-- Settles O17: a word is at most 65535, the divisor, so both linear functions reach their ends and no further. -/
theorem exactValuesHaveTheirRangeAndIncrease : Obligations.ExactValuesHaveTheirRangeAndIncrease := by
  intro cfg hc t u
  have hnonneg : (0 : ℚ) ≤ t.toNat := Nat.cast_nonneg _
  have hle := word16_cast_le t
  simp only [exactTemp_eq hc, exactRh_eq hc, true_and]
  refine ⟨by linarith, by linarith, by linarith, by linarith, fun htu => ?_⟩
  have hlt : (t.toNat : ℚ) < u.toNat := Nat.cast_lt.mpr htu
  constructor <;> linarith

/-- Settles O18: the offset is a whole number of units, so the floor of the sum is the offset and the floored
quotient. -/
theorem unclampedResultsAreFlooredExactValues : Obligations.UnclampedResultsAreFlooredExactValues :=
  fun _ hc t => ⟨tempRaw_eq hc t, rhRaw_eq hc t, tempRaw_eq_floor hc t, rhRaw_eq_floor hc t⟩

/-- Settles O19: the clamped values fit the register, which gives them back. -/
theorem resultRegistersHoldTheClampedValues : Obligations.ResultRegistersHoldTheClampedValues :=
  fun _ hc hmin hmax t => ⟨convertTemp_toInt_of_none hc t hmin, convertRh_toInt_of_none hc t hmax⟩

/-- Settles O20: as O19, the optional clamp after the one that is always there. -/
theorem optionalClampsApplyWhenSet : Obligations.OptionalClampsApplyWhenSet :=
  fun _ _ hc t => ⟨convertTemp_toInt_of_some hc t, convertRh_toInt_of_some hc t⟩

/-- Settles O21: every bound is that of the largest word, 65535. -/
theorem conversionNeverOverflows : Obligations.ConversionNeverOverflows := by
  intro cfg hc t
  obtain ⟨htlo, hthi⟩ := tempRaw_bounds hc t
  obtain ⟨hhlo, hhhi⟩ := rhRaw_bounds hc t
  obtain ⟨htplo, htphi⟩ := tempProduct_bounds hc t
  obtain ⟨hhplo, hhphi⟩ := rhProduct_bounds hc t
  simp only [quantise_eq hc]
  exact ⟨htplo, by omega, hhplo, by omega, by omega, by omega, by omega, by omega, htlo, hthi, hhlo, hhhi,
    convertTemp_toInt hc t, convertRh_toInt hc t⟩

/-- Settles O22: an unclamped result is the floor of its exact value, and the floor of an integer is that integer. -/
theorem quantisationErrorIsBelowOneUnit : Obligations.QuantisationErrorIsBelowOneUnit := by
  intro cfg hc t
  obtain ⟨htlo, hthi⟩ := floor_units_error (exactTemp cfg.conv t)
  obtain ⟨hhlo, hhhi⟩ := floor_units_error (exactRh cfg.conv t)
  rw [← tempRaw_eq_floor hc] at htlo hthi
  rw [← rhRaw_eq_floor hc] at hhlo hhhi
  refine ⟨htlo, hthi, hhlo, hhhi, fun hdvd => ?_, fun hdvd => ?_⟩
  · linarith [exactTemp_units_of_dvd hc t hdvd]
  · linarith [exactRh_units_of_dvd hc t hdvd]

/-- Settles O23: both bounds are whole numbers of units, so they pass through the floor. -/
theorem clampAndQuantisationCommute : Obligations.ClampAndQuantisationCommute := by
  refine fun cfg hc t => ⟨fun hmin => ?_, fun hmax => ?_⟩
  · rw [convertTemp_toInt_of_none hc t hmin, tempRaw_eq_floor hc]
    exact_mod_cast (floor_units_min (exactTemp cfg.conv t) 100).symm
  · rw [convertRh_toInt_of_none hc t hmax, rhRaw_eq_floor hc]
    exact_mod_cast (floor_units_max (exactRh cfg.conv t) 0).symm

/-- Settles O24: the steps and thresholds are those of the two formulas, and the ranges those of the clamped values. -/
theorem clampThresholdsAndMonotonicity : Obligations.ClampThresholdsAndMonotonicity := by
  intro cfg hc t u
  have htemp := tempClamped_bounds hc t
  have hrh := rhClamped_bounds hc t
  rw [← convertTemp_toInt hc] at htemp
  rw [← convertRh_toInt hc] at hrh
  refine ⟨fun htu => ⟨?_, rhRaw_add_le hc t htu⟩, tempRaw_gt_max_iff hc t, rhRaw_neg_iff hc t,
    fun ht => ?_, fun ht => ?_, fun ht => ?_, fun ht => ?_, fun _ => htemp, fun _ => hrh⟩
  · have hstep := tempRaw_add_le hc t htu
    omega
  · rw [tempRaw_eq hc, ht]
    rfl
  · rw [tempRaw_eq hc, ht]
    rfl
  · rw [rhRaw_eq hc, ht]
    rfl
  · rw [rhRaw_eq hc, ht]
    rfl

end Sys2Proof.Machine
end

section
/-! PROOFS. The family of 44_operations.md: a request and what it starts (R160, R161, R166, R172), the attach answers
(R162, R165), the ends of a transfer (R164, R167, R168, R173, R174), and the transition table with its traffic (R178,
R180, R182). -/

namespace Sys2Proof.Machine

/-! ### A request clears the last result (R160) -/

/-- Settles O28: each row of a request starts from the cleared result. -/
theorem acceptedRequestsClearTheLastResult : Obligations.AcceptedRequestsClearTheLastResult := by
  intro s t op bus speed timeout h
  obtain ⟨hidle, ⟨-, -, rfl⟩ | ⟨-, -, -, rfl⟩ | ⟨-, -, -, -, rfl⟩ | ⟨-, -, rfl⟩⟩ := onRequest_cases h
  all_goals exact ⟨hidle, rfl, rfl⟩

/-! ### The frame of the five instructions (R103, R161, R166, R172, R199) -/

theorem acceptRequest_next {legal : Bool} {start : State → Except Fault State} {s t : State}
    (h : acceptRequest legal start s = .next t) :
    s.phase = .idle ∧ (start (clearResult s) = .ok t ∨ t = refuseRequest (clearResult s)) := by
  rcases acceptRequest_cases legal start s with ⟨hp, -, e⟩ | ⟨hp, -, e⟩ | ⟨-, e⟩ <;> rw [e] at h
  · exact ⟨hp, .inl (outcomeOf_next h)⟩
  · cases h
    exact ⟨hp, .inr rfl⟩
  · cases h

theorem exec_commandInstr_next {c : Command} {s t : State} (h : exec c.instr s = .next t) : t = staged c s := by
  by_cases hp : s.phase = .xferWait
  · cases c with
    | measureHighPrecision => cases (execMeasHp_of_xferWait hp).symm.trans h
    | readSerialNumber => cases (execReadSn_of_xferWait hp).symm.trans h
  · rw [exec_commandInstr c hp] at h
    exact stage_cases (outcomeOf_next h)

/-- Everything the next state of an instruction can be. -/
theorem exec_cases {i : Instr} {s t : State} (h : exec i s = .next t) :
    (∃ c, t = staged c s) ∨
    (i ≠ .measHp ∧ i ≠ .readSn ∧ s.phase = .idle ∧
      ((∃ bus speed timeout, t = attaching bus speed timeout (clearResult s)) ∨
       (∃ o timeout, t = staged o.command (latch o timeout (clearResult s))) ∨
       t = refuseRequest (clearResult s))) := by
  cases i with
  | measHp => exact .inl ⟨_, exec_commandInstr_next (c := .measureHighPrecision) h⟩
  | readSn => exact .inl ⟨_, exec_commandInstr_next (c := .readSerialNumber) h⟩
  | initializeDevice bus speed timeout =>
    obtain ⟨hp, hstart | hrefused⟩ := acceptRequest_next h
    · exact .inr ⟨nofun, nofun, hp, .inl ⟨bus, speed, timeout, (Except.ok.inj hstart).symm⟩⟩
    · exact .inr ⟨nofun, nofun, hp, .inr (.inr hrefused)⟩
  | readMeasurement timeout =>
    obtain ⟨hp, hstart | hrefused⟩ := acceptRequest_next h
    · exact .inr ⟨nofun, nofun, hp, .inr (.inl ⟨_, _, startExchange_cases hstart⟩)⟩
    · exact .inr ⟨nofun, nofun, hp, .inr (.inr hrefused)⟩
  | readSerialNumber timeout =>
    obtain ⟨hp, hstart | hrefused⟩ := acceptRequest_next h
    · exact .inr ⟨nofun, nofun, hp, .inr (.inl ⟨_, _, startExchange_cases hstart⟩)⟩
    · exact .inr ⟨nofun, nofun, hp, .inr (.inr hrefused)⟩

/-- Settles O30: an instruction stages a command, starts an attach or refuses a request, and each writes its own few
registers only. -/
theorem instructionsLeaveTheRestAlone : Obligations.InstructionsLeaveTheRestAlone := by
  intro i s t h
  have hstore (v : Byte) (a : Nat) (ha : a ≠ 0) :
      Memory.read (Memory.write s.scratch 0 v) a = Memory.read s.scratch a := Memory.read_write_other _ 0 a v ha
  rcases exec_cases h with
    ⟨c, rfl⟩ | ⟨hmeas, hread, hidle, ⟨bus, speed, timeout, rfl⟩ | ⟨o, timeout, rfl⟩ | rfl⟩
  · exact ⟨rfl, rfl, rfl, rfl, rfl, rfl, rfl, rfl, rfl, hstore _, absurd rfl, nofun, fun _ => rfl,
      fun _ => ⟨rfl, rfl, rfl, rfl, rfl⟩⟩
  · exact ⟨rfl, rfl, rfl, rfl, rfl, rfl, rfl, rfl, rfl, fun _ _ => rfl, fun _ _ => rfl, nofun, fun _ => rfl,
      fun hi => absurd hi (by simp [hmeas, hread])⟩
  · exact ⟨rfl, rfl, rfl, rfl, rfl, rfl, rfl, rfl, rfl, hstore _, absurd rfl, nofun, fun _ => rfl,
      fun hi => absurd hi (by simp [hmeas, hread])⟩
  · exact ⟨rfl, rfl, rfl, rfl, rfl, rfl, rfl, rfl, rfl, fun _ _ => rfl, fun _ _ => rfl, fun _ => ⟨rfl, rfl⟩,
      absurd hidle, fun hi => absurd hi (by simp [hmeas, hread])⟩

/-! ### Accepted requests (R161, R166, R172) -/

theorem exec_initializeDevice_of_idle {s : State} (bus : BusHandle) (speed : Nat) (timeout : Timeout)
    (hp : s.phase = .idle) (hr : s.ready = false) :
    exec (.initializeDevice bus speed timeout) s = .next (attaching bus speed timeout (clearResult s)) := by
  simp only [exec, execInitializeDevice, hr]
  exact acceptRequest_of_idle _ hp

/-- Settles O25: the address of a conforming block is `0x44`. -/
theorem initializeStartsWithAnAttach : Obligations.InitializeStartsWithAnAttach := by
  intro s bus speed timeout hc hp hr
  have haddr : s.cfg.wire.deviceAddr = 0x44#7 := by rw [conforms_wire hc]
  have hspeed : s.cfg.wire.busSpeedDefault = 100000 := by rw [conforms_wire hc]
  obtain ⟨hdecode, -⟩ := hostRequestsDecodeByTheirOpField s.cfg bus speed timeout hc
  refine ⟨hdecode, hspeed, _, exec_initializeDevice_of_idle bus speed timeout hp hr, ?_⟩
  rw [← haddr]
  rfl

/-- Settles O26: an accepted read is its wire command on the accepted and latched state. -/
theorem readMeasurementStartsItsExchange : Obligations.ReadMeasurementStartsItsExchange := by
  intro s bus speed timeout hc hp hr
  obtain ⟨-, hdecode, -⟩ := hostRequestsDecodeByTheirOpField s.cfg bus speed timeout hc
  obtain ⟨hexec, -⟩ := startedExchangesRunTheirWireCommand.1 s timeout hp hr
  obtain ⟨⟨t, ht, hread, rfl⟩, -⟩ :=
    wireCommandsStageTheirOpcode (latch .meas timeout (clearResult s)) hc (by simp [hp])
  refine ⟨hdecode, ?_, _, hexec.trans ht, hread, rfl⟩
  rw [encode, Command.opcode_measureHighPrecision hc]

/-- Settles O27: an accepted read is its wire command on the accepted and latched state. -/
theorem readSerialNumberStartsItsExchange : Obligations.ReadSerialNumberStartsItsExchange := by
  intro s bus speed timeout hc hp hr
  obtain ⟨-, -, hdecode, -⟩ := hostRequestsDecodeByTheirOpField s.cfg bus speed timeout hc
  obtain ⟨-, hexec⟩ := startedExchangesRunTheirWireCommand.1 s timeout hp hr
  obtain ⟨-, t, ht, hread, rfl⟩ :=
    wireCommandsStageTheirOpcode (latch .rdsn timeout (clearResult s)) hc (by simp [hp])
  refine ⟨hdecode, ?_, _, hexec.trans ht, hread, rfl⟩
  rw [encode, Command.opcode_readSerialNumber hc]

/-! ### The answers that end or continue an operation (R162, R165, R167, R173, R178) -/

/-- Settles O35: an accepted attach is `READ_SN` on the state that holds the new handle. -/
theorem acceptedAttachStartsTheIdentityExchange : Obligations.AcceptedAttachStartsTheIdentityExchange := by
  intro s d rest hc hp hin hfits
  obtain ⟨-, t, ht, -, rfl⟩ :=
    wireCommandsStageTheirOpcode { s with inbox := rest, devh := d } hc (by simp [hp])
  exact (startedExchangesRunTheirWireCommand.2 s d rest hp hin hfits).trans ht

theorem step_attachFailed {s : State} {e : ErrCode} {rest : List Input} (hin : s.inbox = .attachFailed e :: rest)
    (hfits : fitsWidth s.cfg.xerrW e.token = true) : step s = onAttachFailed e (dequeue rest s) :=
  (step_eq_takeInput hin).trans (if_pos hfits)

theorem step_xferFailed {s : State} {e : ErrCode} {rest : List Input} (hin : s.inbox = .xferFailed e :: rest)
    (hfits : fitsWidth s.cfg.xerrW e.token = true) : step s = onXferFailed e (dequeue rest s) :=
  (step_eq_takeInput hin).trans (if_pos hfits)

theorem onAttachFailed_of_attachWait {s : State} (e : ErrCode) (h : s.phase = .attachWait) :
    onAttachFailed e s = .next (raiseWith .busAttachError e s) := by
  simp only [onAttachFailed, h]

theorem onXferFailed_of_xferWait {s : State} (e : ErrCode) (h : s.phase = .xferWait) :
    onXferFailed e s = .next (raiseWith (transferError s.opr) e (loseScratch s)) := by
  simp only [onXferFailed, h]

/-- `Rsp` without a result (R31). -/
theorem responseOf_of_resKind_none {s : State} (d : Option ErrCode) {v : BitVec 3} (hkind : s.resKind = .none)
    (hstatus : s.status = v) :
    responseOf d s = { status := v, errdetail := d, crcfail := s.crcfail, resKind := .none
                       tempQ16 := none, rhQ16 := none, serial := none } := by
  simp [responseOf_eq, hkind, hstatus]

theorem number_busAttachError {c : Config} (h : c.conforms = true) : c.codes.number .busAttachError = 1 :=
  number_of_conforms h .busAttachError

/-- Settles O36: the number of `BusAttachError` is 1. -/
theorem rejectedAttachRaisesBusAttachError : Obligations.RejectedAttachRaisesBusAttachError := by
  intro s e rest hc hp hin hfits
  calc step s
    _ = onAttachFailed e (dequeue rest s) := step_attachFailed hin hfits
    _ = .next (raiseWith .busAttachError e (dequeue rest s)) := onAttachFailed_of_attachWait e hp
    _ = _ := by rw [← number_busAttachError hc]; rfl

theorem transferError_eq (o : Opr) :
    transferError o = if o = .init then .deviceNotResponding else .transportError := by
  cases o <;> rfl

/-- Settles O37: a failed transfer loses `SCRATCH` and raises the error of the operation in flight. -/
theorem failedTransferRaisesTheTransportsError : Obligations.FailedTransferRaisesTheTransportsError := by
  intro s e rest _ hp hin hfits
  rw [← transferError_eq]
  exact ⟨_, _, (step_xferFailed hin hfits).trans (onXferFailed_of_xferWait e hp), rfl, rfl, rfl, rfl, rfl, rfl, rfl,
    rfl, rfl, rfl, rfl, rfl, rfl, rfl, rfl⟩

/-- The phase that waits for an answer of the transport; no other message is one (R178). -/
def Input.awaitedIn (m : Input) : Option Phase :=
  match m with
  | .rst => none
  | .req _ _ _ _ => none
  | .attachOk _ => some .attachWait
  | .attachFailed _ => some .attachWait
  | .xferOk _ => some .xferWait
  | .xferFailed _ => some .xferWait

/-- An answer that fits its port is refused outside the phase that waits for it. -/
theorem takeInput_of_unsolicited {m : Input} {p : Phase} {s : State} (hwait : m.awaitedIn = some p)
    (hfits : m.wf s.cfg = true) (hp : s.phase ≠ p) : takeInput m s = .refused .unsolicitedAnswer := by
  refine (if_pos hfits).trans ?_
  cases m with
  | rst => cases hwait
  | req op bus speed timeout => cases hwait
  | attachOk d => cases hwait; cases hs : s.phase <;> simp_all [onAttachOk]
  | attachFailed e => cases hwait; cases hs : s.phase <;> simp_all [onAttachFailed]
  | xferOk r => cases hwait; cases hs : s.phase <;> simp_all [onXferOk]
  | xferFailed e => cases hwait; cases hs : s.phase <;> simp_all [onXferFailed]

/-- Settles O42: each answer is awaited in one phase. -/
theorem unsolicitedAnswersHaveNoStep : Obligations.UnsolicitedAnswersHaveNoStep := by
  intro s rest
  have hrefused {m : Input} {p : Phase} (hp : s.phase ≠ p) (hin : s.inbox = m :: rest) (hfits : m.wf s.cfg = true)
      (hwait : m.awaitedIn = some p) : step s = .refused .unsolicitedAnswer :=
    (step_eq_takeInput hin).trans (takeInput_of_unsolicited hwait hfits hp)
  exact ⟨fun hp d hin hfits => hrefused hp hin hfits rfl, fun hp e hin hfits => hrefused hp hin hfits rfl,
    fun hp r hin => hrefused hp hin rfl rfl, fun hp e hin hfits => hrefused hp hin hfits rfl⟩

/-! ### The ends of a successful transfer (R164, R168, R174) -/

theorem finishExchange_of_init {w : Words} {s : State} (h : s.opr = .init) :
    finishExchange w s = finishInit (w.pass s.cfg.crc) s := by
  simp only [finishExchange, h]

theorem finishExchange_of_meas {w : Words} {s : State} (h : s.opr = .meas) :
    finishExchange w s = finishMeasurement w s := by
  simp only [finishExchange, h]

theorem finishExchange_of_rdsn {w : Words} {s : State} (h : s.opr = .rdsn) :
    finishExchange w s = finishSerial w s := by
  simp only [finishExchange, h]

/-- In a conforming block the first word is the temperature and the second the humidity (R136). -/
theorem wordOrder_of_conforms {c : Config} (h : c.conforms = true) : c.conv.wordOrder = .temperatureFirst := by
  rw [conforms_conv h]

theorem finishMeasurement_of_pass {w : Words} {s : State} (hc : s.cfg.conforms = true)
    (h : w.pass s.cfg.crc = true) :
    finishMeasurement w s = finishOk .measurement
      (setMeasurement (convertTemp s.cfg.conv w.word0) (convertRh s.cfg.conv w.word1) s) := by
  rw [finishMeasurement, if_pos h, wordOrder_of_conforms hc]
  rfl

theorem finishMeasurement_of_fail {w : Words} {s : State} (h : ¬ w.pass s.cfg.crc = true) :
    finishMeasurement w s = raiseChecksumError s :=
  if_neg h

theorem finishSerial_of_pass {w : Words} {s : State} (h : w.pass s.cfg.crc = true) :
    finishSerial w s = finishOk .serial (setSerial (assembleSerial w.word0 w.word1) s) :=
  if_pos h

theorem finishSerial_of_fail {w : Words} {s : State} (h : ¬ w.pass s.cfg.crc = true) :
    finishSerial w s = raiseChecksumError s :=
  if_neg h

theorem finishInit_of_accepted {w : Words} {s : State}
    (h : s.cfg.initCrcFatal = false ∨ w.pass s.cfg.crc = true) :
    finishInit (w.pass s.cfg.crc) s = finishOk .none (setReady s) := by
  rw [finishInit, if_neg]
  obtain h | h := h <;> simp [h]

theorem finishInit_of_fatal {w : Words} {s : State} (hfatal : s.cfg.initCrcFatal = true)
    (hfail : ¬ w.pass s.cfg.crc = true) : finishInit (w.pass s.cfg.crc) s = raiseChecksumError s := by
  rw [finishInit, if_pos]
  simp [hfatal, hfail]

/-- Settles O39: the words are converted where both pass, and nothing is where one fails. -/
theorem measurementIsReturnedOnlyIfBothWordsPass : Obligations.MeasurementIsReturnedOnlyIfBothWordsPass := by
  intro s r rest hc hm hp ho hin
  rw [← pass_wordsOf]
  have hstep : step s = .next (finishExchange (wordsOf r) (landed r rest s)) := step_xferOk hc hm hp hin
  rw [finishExchange_of_meas (s := landed r rest s) ho] at hstep
  by_cases hpass : (wordsOf r).pass s.cfg.crc = true
  · rw [finishMeasurement_of_pass (s := landed r rest s) hc hpass] at hstep
    exact ⟨_, _, hstep, rfl, rfl, rfl, rfl, rfl, rfl, rfl, rfl, rfl,
      fun _ => ⟨rfl, rfl, rfl, rfl, convertTemp_toInt_of_none hc _, convertRh_toInt_of_none hc _, rfl, rfl⟩,
      absurd hpass⟩
  · rw [finishMeasurement_of_fail (s := landed r rest s) hpass] at hstep
    exact ⟨_, _, hstep, rfl, rfl, rfl, rfl, rfl, rfl, rfl, rfl, rfl,
      fun h => absurd h hpass, fun _ => ⟨rfl, rfl, rfl, rfl⟩⟩

/-- Settles O40: the serial number is assembled where both words pass, and nothing is where one fails. -/
theorem serialIsReturnedOnlyIfBothWordsPass : Obligations.SerialIsReturnedOnlyIfBothWordsPass := by
  intro s r rest hc hm hp ho hin
  rw [← pass_wordsOf]
  have hstep : step s = .next (finishExchange (wordsOf r) (landed r rest s)) := step_xferOk hc hm hp hin
  rw [finishExchange_of_rdsn (s := landed r rest s) ho] at hstep
  by_cases hpass : (wordsOf r).pass s.cfg.crc = true
  · rw [finishSerial_of_pass (s := landed r rest s) hpass] at hstep
    exact ⟨_, _, hstep, rfl, rfl, rfl, rfl, rfl, rfl, rfl, rfl, rfl, rfl,
      fun _ => ⟨rfl, rfl, rfl, rfl⟩, absurd hpass⟩
  · rw [finishSerial_of_fail (s := landed r rest s) hpass] at hstep
    exact ⟨_, _, hstep, rfl, rfl, rfl, rfl, rfl, rfl, rfl, rfl, rfl, rfl,
      fun h => absurd h hpass, fun _ => ⟨rfl, rfl, rfl⟩⟩

theorem number_checksumError {c : Config} (h : c.conforms = true) : c.codes.number .checksumError = 4 :=
  number_of_conforms h .checksumError

/-- Settles O41: a failed check ends `initialize` with an error only where the block makes it fatal. -/
theorem initializeEndsReadyUnlessTheCheckIsFatal : Obligations.InitializeEndsReadyUnlessTheCheckIsFatal := by
  intro s r rest hc hm hp ho hin
  rw [← pass_wordsOf]
  have hstep : step s = .next (finishExchange (wordsOf r) (landed r rest s)) := step_xferOk hc hm hp hin
  rw [finishExchange_of_init (s := landed r rest s) ho] at hstep
  by_cases haccepted : s.cfg.initCrcFatal = false ∨ (wordsOf r).pass s.cfg.crc = true
  · rw [finishInit_of_accepted (s := landed r rest s) haccepted] at hstep
    refine ⟨_, hstep, rfl, rfl, rfl, rfl, rfl, rfl, rfl, rfl, rfl, rfl,
      fun _ => ⟨rfl, number_ok hc, rfl, ?_⟩, fun hfatal hfail => absurd haccepted (by simp [hfatal, hfail])⟩
    rw [← responseOf_of_resKind_none none rfl (number_ok hc)]
    rfl
  · obtain ⟨hfatal, hfail⟩ := not_or.mp haccepted
    rw [Bool.not_eq_false] at hfatal
    rw [finishInit_of_fatal (s := landed r rest s) hfatal hfail] at hstep
    refine ⟨_, hstep, rfl, rfl, rfl, rfl, rfl, rfl, rfl, rfl, rfl, rfl,
      fun h => absurd h haccepted, fun _ _ => ⟨rfl, number_checksumError hc, ?_⟩⟩
    rw [← responseOf_of_resKind_none none rfl (number_checksumError hc)]
    rfl

/-! ### The transition table (R178) -/

/-- The rows of the transition table that a request takes, by its op field and *Ready*. -/
theorem onRequest_row {op : BitVec 2} {bus : BusHandle} {speed : Nat} {timeout : Timeout} {s t : State}
    (h : onRequest op bus speed timeout s = .next t) :
    s.phase = .idle ∧ t.ready = s.ready ∧
    ((op = s.cfg.opSel.opInit ∧ s.ready = false ∧ t.phase = .attachWait) ∨
     (op ≠ s.cfg.opSel.opInit ∧ s.ready = true ∧ t.phase = .xferWait ∧
       (op = s.cfg.opSel.opMeas ∨ op = s.cfg.opSel.opRdsn)) ∨
     (t.phase = .idle ∧ (op = s.cfg.opSel.opInit → s.ready = true) ∧
       (op ≠ s.cfg.opSel.opInit → op = s.cfg.opSel.opMeas ∨ op = s.cfg.opSel.opRdsn → s.ready = false))) := by
  obtain ⟨hidle, ⟨hop, hready, rfl⟩ | ⟨hne, hop, hready, rfl⟩ | ⟨hne, -, hop, hready, rfl⟩ | ⟨hinit, hread, rfl⟩⟩ :=
    onRequest_cases h
  · exact ⟨hidle, rfl, .inl ⟨hop, hready, rfl⟩⟩
  · exact ⟨hidle, rfl, .inr (.inl ⟨hne, hready, rfl, .inl hop⟩)⟩
  · exact ⟨hidle, rfl, .inr (.inl ⟨hne, hready, rfl, .inr hop⟩)⟩
  · exact ⟨hidle, rfl, .inr (.inr ⟨hidle, hinit, hread⟩)⟩

/-- A successful transfer ends in `IDLE`, and `initialize` alone sets `READY` there. -/
theorem takeResponse_row {r : Rsp48} {s t : State} (h : takeResponse r s = .ok t) :
    t.phase = .idle ∧ (t.ready = s.ready ∨ s.opr = .init ∧ t.ready = true) := by
  obtain ⟨m, v, rfl | ⟨hopr, rfl⟩ | ⟨-, a, b, rfl⟩ | ⟨-, a, rfl⟩⟩ := takeResponse_ends h
  · exact ⟨rfl, .inl rfl⟩
  · exact ⟨rfl, .inr ⟨hopr, rfl⟩⟩
  · exact ⟨rfl, .inl rfl⟩
  · exact ⟨rfl, .inl rfl⟩

/-- Settles O51: the rows are those of the inversion of a step. -/
theorem everyStepIsARowOfTheTransitionTable : Obligations.EveryStepIsARowOfTheTransitionTable := by
  intro s t h
  rcases step_next_cases h with
    hwait | ⟨rest, hin, rfl⟩ | ⟨op, bus, speed, timeout, rest, hin, hreq⟩ | ⟨d, rest, hin, hp, rfl⟩ |
    ⟨e, rest, hin, hp, rfl⟩ | ⟨r, rest, hin, hp, hresp⟩ | ⟨e, rest, hin, hp, rfl⟩
  · exact .inl hwait
  · exact .inr (.inl ⟨rest, hin, rfl, rfl⟩)
  · exact .inr (.inr (.inl ⟨op, bus, speed, timeout, rest, hin, onRequest_row (s := dequeue rest s) hreq⟩))
  · exact .inr (.inr (.inr (.inl ⟨d, rest, hin, hp, rfl, rfl⟩)))
  · exact .inr (.inr (.inr (.inr (.inl ⟨e, rest, hin, hp, rfl, rfl⟩))))
  · exact .inr (.inr (.inr (.inr (.inr (.inl ⟨r, rest, hin, hp, takeResponse_row (s := dequeue rest s) hresp⟩)))))
  · exact .inr (.inr (.inr (.inr (.inr (.inr ⟨e, rest, hin, hp, rfl, rfl⟩)))))

/-! ### The traffic of a step (R180) -/

/-- From `s` to `t` the message sent is the one that the phase of `t` tells: an attach request in `ATTACH_WAIT`, a
transfer request in `XFER_WAIT`, `Rsp` in `IDLE`. -/
def SendsByPhase (s t : State) : Prop :=
  attachCount t.sent = attachCount s.sent + (if t.phase = .attachWait then 1 else 0) ∧
  xferCount t.sent = xferCount s.sent + (if t.phase = .xferWait then 1 else 0) ∧
  rspCount t.sent = rspCount s.sent + (if t.phase = .idle then 1 else 0)

theorem SendsOne.byPhase {s t : State} (h : SendsOne s t) : SendsByPhase s t := by
  rcases h with ⟨k, hp, -, hsent⟩ | ⟨hp, -, bus, address, speed, hsent⟩ | ⟨hp, -, devh, wbytes, rcount, timeout, hsent⟩
  all_goals
    simp [SendsByPhase, hp, hsent, attachCount_snoc, xferCount_snoc, rspCount_snoc, attachCount, xferCount, rspCount]

theorem step_sendsByPhase {s t : State} {m : Input} {rest : List Input} (hin : s.inbox = m :: rest) (hne : m ≠ .rst)
    (h : step s = .next t) : SendsByPhase s t := by
  rcases step_sends h with ⟨hnil | ⟨rest', hrst⟩, -⟩ | hsends
  · simp [hin] at hnil
  · simp [hin, hne] at hrst
  · exact hsends.byPhase

/-- Settles O52: a step that takes a message other than `rst` sends the one message of the phase it ends in. -/
theorem everyOperationEndsWithOneResponse : Obligations.EveryOperationEndsWithOneResponse := by
  intro s t m rest hin hne h
  obtain ⟨-, -, hrsp⟩ := step_sendsByPhase hin hne h
  exact hrsp

/-! ### The traffic of an operation (R182) -/

theorem takeResponse_inbox {r : Rsp48} {s t : State} (h : takeResponse r s = .ok t) : t.inbox = s.inbox := by
  obtain ⟨m, v, rfl | ⟨-, rfl⟩ | ⟨-, a, b, rfl⟩ | ⟨-, a, rfl⟩⟩ := takeResponse_ends h
  all_goals rfl

theorem onRequest_inbox {op : BitVec 2} {bus : BusHandle} {speed : Nat} {timeout : Timeout} {s t : State}
    (h : onRequest op bus speed timeout s = .next t) : t.inbox = s.inbox := by
  obtain ⟨-, ⟨-, -, rfl⟩ | ⟨-, -, -, rfl⟩ | ⟨-, -, -, -, rfl⟩ | ⟨-, -, rfl⟩⟩ := onRequest_cases h
  all_goals rfl

/-- A step takes its message and leaves the rest of the inbox. -/
theorem step_inbox {s t : State} {m : Input} {rest : List Input} (hin : s.inbox = m :: rest)
    (h : step s = .next t) : t.inbox = rest := by
  rw [step_eq_takeInput hin] at h
  obtain ⟨-, hm⟩ := takeInput_cases h
  cases m with
  | rst => exact congrArg State.inbox hm
  | req op bus speed timeout => exact onRequest_inbox (s := dequeue rest s) hm
  | attachOk d => exact congrArg State.inbox hm.2
  | attachFailed e => exact congrArg State.inbox hm.2
  | xferOk r => exact takeResponse_inbox (s := dequeue rest s) hm.2
  | xferFailed e => exact congrArg State.inbox hm.2

/-- One step of an operation: from a state that meets the invariant it takes a message other than `rst` and leaves
the sequencer in the phase `p`, with `rest` still to arrive. -/
structure StepsTo (p : Phase) (rest : List Input) (s t : State) : Prop where
  next : step s = .next t
  phase : t.phase = p
  inbox : t.inbox = rest
  sends : SendsByPhase s t
  cfg : t.cfg = s.cfg
  inv : Inv t

theorem stepsTo_of_step {p : Phase} {rest : List Input} {s t : State} {m : Input} (hinv : Inv s)
    (hin : s.inbox = m :: rest) (hne : m ≠ .rst) (h : step s = .next t) (hp : t.phase = p) : StepsTo p rest s t where
  next := h
  phase := hp
  inbox := step_inbox hin h
  sends := step_sendsByPhase hin hne h
  cfg := noStepWritesTheParameters s t h
  inv := everyStepKeepsTheRegisterInvariant s t hinv h

section
variable {s : State} {bus : BusHandle} {speed : Nat} {timeout : Timeout} {rest : List Input} (hinv : Inv s)
include hinv

/-- An accepted `initialize` waits for its attach answer. -/
theorem initialize_stepsTo (hp : s.phase = .idle) (hr : s.ready = false)
    (hbus : fitsWidth s.cfg.bushW bus.token = true)
    (hin : s.inbox = .req s.cfg.opSel.opInit bus speed timeout :: rest) : ∃ t, StepsTo .attachWait rest s t := by
  obtain ⟨-, hstep⟩ := stepRunsTheRequestedInstruction s _ bus speed timeout rest _ hin hbus (if_pos rfl)
  exact ⟨_, stepsTo_of_step hinv hin nofun
    (hstep.trans (exec_initializeDevice_of_idle (s := dequeue rest s) bus speed timeout hp hr)) rfl⟩

/-- An accepted read waits for its transfer. -/
theorem read_stepsTo {op : BitVec 2} (hop : op = s.cfg.opSel.opMeas ∨ op = s.cfg.opSel.opRdsn) (hp : s.phase = .idle)
    (hr : s.ready = true) (hbus : fitsWidth s.cfg.bushW bus.token = true)
    (hin : s.inbox = .req op bus speed timeout :: rest) : ∃ t, StepsTo .xferWait rest s t := by
  have hc := hinv.conforms
  obtain ⟨i, t, hdecode, hexec, ht⟩ : ∃ i t, decode s.cfg (.hreq op bus speed timeout) = .ok i ∧
      exec i (dequeue rest s) = .next t ∧ t.phase = .xferWait := by
    rw [conforms_opSel hc] at hop
    obtain rfl | rfl := hop
    · obtain ⟨hdecode, -, t, hexec, -, ht⟩ :=
        readMeasurementStartsItsExchange (dequeue rest s) bus speed timeout hc hp hr
      exact ⟨_, t, hdecode, hexec, congrArg State.phase ht⟩
    · obtain ⟨hdecode, -, t, hexec, -, ht⟩ :=
        readSerialNumberStartsItsExchange (dequeue rest s) bus speed timeout hc hp hr
      exact ⟨_, t, hdecode, hexec, congrArg State.phase ht⟩
  obtain ⟨-, hstep⟩ := stepRunsTheRequestedInstruction s op bus speed timeout rest i hin hbus hdecode
  exact ⟨t, stepsTo_of_step hinv hin nofun (hstep.trans hexec) ht⟩

theorem attachOk_stepsTo {d : DevHandle} (hp : s.phase = .attachWait) (hin : s.inbox = .attachOk d :: rest)
    (hfits : fitsWidth s.cfg.devhW d.token = true) : ∃ t, StepsTo .xferWait rest s t :=
  ⟨_, stepsTo_of_step hinv hin nofun
    (acceptedAttachStartsTheIdentityExchange s d rest hinv.conforms hp hin hfits) rfl⟩

theorem attachFailed_stepsTo {e : ErrCode} (hp : s.phase = .attachWait) (hin : s.inbox = .attachFailed e :: rest)
    (hfits : fitsWidth s.cfg.xerrW e.token = true) : ∃ t, StepsTo .idle rest s t :=
  ⟨_, stepsTo_of_step hinv hin nofun (rejectedAttachRaisesBusAttachError s e rest hinv.conforms hp hin hfits) rfl⟩

/-- The answer to a transfer ends the operation, whatever its outcome. -/
theorem transfer_stepsTo {answer : Input} (hp : s.phase = .xferWait) (hin : s.inbox = answer :: rest)
    (hanswer : (∃ r, answer = .xferOk r) ∨ ∃ e, answer = .xferFailed e ∧ fitsWidth s.cfg.xerrW e.token = true) :
    ∃ t, StepsTo .idle rest s t := by
  obtain ⟨r, rfl⟩ | ⟨e, rfl, hfits⟩ := hanswer
  · obtain ⟨t, hstep, hidle, -⟩ := responseLandsAndIsChecked s r rest hinv.conforms hinv.scratch hp hin
    exact ⟨t, stepsTo_of_step hinv hin nofun hstep hidle⟩
  · obtain ⟨t, -, hstep, -, -, -, -, -, -, hidle, -⟩ :=
      failedTransferRaisesTheTransportsError s e rest hinv.conforms hp hin hfits
    exact ⟨t, stepsTo_of_step hinv hin nofun hstep hidle⟩

end

theorem acceptRequest_of_illegal {s : State} (start : State → Except Fault State) (h : s.phase = .idle) :
    acceptRequest false start s = .next (refuseRequest (clearResult s)) := by
  simp [acceptRequest, h]

/-- An idle block answers a request that is not legal in its operational state, or of the reserved op, with
`IllegalRequest` (R199). -/
theorem onRequest_of_illegal {s : State} {op : BitVec 2} (bus : BusHandle) (speed : Nat) (timeout : Timeout)
    (hp : s.phase = .idle) (hinit : op = s.cfg.opSel.opInit → s.ready = true)
    (hread : op = s.cfg.opSel.opMeas ∨ op = s.cfg.opSel.opRdsn → s.ready = false) :
    onRequest op bus speed timeout s = .next (refuseRequest (clearResult s)) := by
  simp only [onRequest, decode]
  split_ifs with h0 h1 h2
  · simp only [exec, execInitializeDevice, hinit h0]
    exact acceptRequest_of_illegal _ hp
  · simp only [exec, execReadMeasurement, hread (.inl h1)]
    exact acceptRequest_of_illegal _ hp
  · simp only [exec, execReadSerialNumber, hread (.inr h2)]
    exact acceptRequest_of_illegal _ hp
  · exact acceptRequest_of_illegal _ hp

/-- A refused request leaves the block idle. -/
theorem refused_stepsTo {s : State} {op : BitVec 2} {bus : BusHandle} {speed : Nat} {timeout : Timeout}
    {rest : List Input} (hinv : Inv s) (hp : s.phase = .idle) (hbus : fitsWidth s.cfg.bushW bus.token = true)
    (hinit : op = s.cfg.opSel.opInit → s.ready = true)
    (hread : op = s.cfg.opSel.opMeas ∨ op = s.cfg.opSel.opRdsn → s.ready = false)
    (hin : s.inbox = .req op bus speed timeout :: rest) : ∃ t, StepsTo .idle rest s t := by
  have hstep : step s = .next (refuseRequest (clearResult (dequeue rest s))) :=
    calc step s = takeInput (.req op bus speed timeout) (dequeue rest s) := step_eq_takeInput hin
      _ = onRequest op bus speed timeout (dequeue rest s) := takeInput_req op speed timeout hbus
      _ = _ := onRequest_of_illegal bus speed timeout hp hinit hread
  exact ⟨_, stepsTo_of_step hinv hin nofun hstep hp⟩

theorem run_succ_of_step {s t : State} (n : Nat) (h : step s = .next t) :
    Sys2Proof.core.run (n + 1) s = Sys2Proof.core.run n t := by
  have hcore : Sys2Proof.core.step s = .next t := h
  simp only [Host.Core.run, hcore]

/-- `n` steps lead from `s` to `t`, and on the way `a` attach requests, `x` transfer requests and `r` responses have
been sent. -/
def RunsSending (n a x r : Nat) (s t : State) : Prop :=
  Sys2Proof.core.run n s = .next t ∧ attachCount t.sent = attachCount s.sent + a ∧
  xferCount t.sent = xferCount s.sent + x ∧ rspCount t.sent = rspCount s.sent + r

theorem RunsSending.refl (s : State) : RunsSending 0 0 0 0 s s := ⟨rfl, rfl, rfl, rfl⟩

/-- A step before a run adds the one message of the phase it ends in. -/
theorem RunsSending.cons {n a x r : Nat} {p : Phase} {rest : List Input} {s u t : State} (hstep : StepsTo p rest s u)
    (hrun : RunsSending n a x r u t) :
    RunsSending (n + 1) (a + if p = .attachWait then 1 else 0) (x + if p = .xferWait then 1 else 0)
      (r + if p = .idle then 1 else 0) s t := by
  obtain ⟨hattach, hxfer, hrsp⟩ := hstep.sends
  obtain ⟨hr, ha, hx, hp⟩ := hrun
  rw [hstep.phase] at hattach hxfer hrsp
  exact ⟨(run_succ_of_step n hstep.next).trans hr, by omega, by omega, by omega⟩

/-- Settles O54: each operation is a chain of steps, and each step sends the one message of the phase it ends in. -/
theorem operationsSendExactlyTheirTraffic : Obligations.OperationsSendExactlyTheirTraffic := by
  intro s bus speed timeout answer rest hinv hp hbus hanswer
  refine ⟨fun hr d hd hin => ?_, fun hr e he hin => ?_, fun hr op hop hin => ?_, fun op hinit hread hin => ?_⟩
  · obtain ⟨t1, h1⟩ := initialize_stepsTo hinv hp hr hbus hin
    obtain ⟨t2, h2⟩ := attachOk_stepsTo h1.inv h1.phase h1.inbox (by rwa [h1.cfg])
    obtain ⟨t3, h3⟩ := transfer_stepsTo h2.inv h2.phase h2.inbox (by rwa [h2.cfg, h1.cfg])
    obtain ⟨hrun, hsent⟩ : RunsSending 3 1 1 1 s t3 := .cons h1 (.cons h2 (.cons h3 (.refl t3)))
    exact ⟨t3, hrun, h3.phase, h3.inbox, hsent⟩
  · obtain ⟨t1, h1⟩ := initialize_stepsTo hinv hp hr hbus hin
    obtain ⟨t2, h2⟩ := attachFailed_stepsTo h1.inv h1.phase h1.inbox (by rwa [h1.cfg])
    obtain ⟨hrun, hsent⟩ : RunsSending 2 1 0 1 s t2 := .cons h1 (.cons h2 (.refl t2))
    exact ⟨t2, hrun, h2.phase, h2.inbox, hsent⟩
  · obtain ⟨t1, h1⟩ := read_stepsTo hinv hop hp hr hbus hin
    obtain ⟨t2, h2⟩ := transfer_stepsTo h1.inv h1.phase h1.inbox (by rwa [h1.cfg])
    obtain ⟨hrun, hsent⟩ : RunsSending 2 0 1 1 s t2 := .cons h1 (.cons h2 (.refl t2))
    exact ⟨t2, hrun, h2.phase, h2.inbox, hsent⟩
  · obtain ⟨t, h⟩ := refused_stepsTo hinv hp hbus hinit hread hin
    obtain ⟨-, hsent⟩ : RunsSending 1 0 0 1 s t := .cons h (.refl t)
    exact ⟨t, h.next, h.phase, h.inbox, hsent⟩

end Sys2Proof.Machine
end

section
/-! PROOFS. The family of 60_exceptions.md: the numbers of the outcomes (R191), the answer to an illegal request
(R199), and what an error leaves of the block (R200, R203). -/

namespace Sys2Proof.Machine

/-! ### The numbers of the outcomes (R191) -/

/-- R191 numbers the outcomes in the order in which `StatusKind` lists them, so a number tells its outcome. -/
theorem number_injective {c : Config} (h : c.conforms = true) : Function.Injective c.codes.number := by
  rw [conforms_codes h]
  have hinverse : Function.LeftInverse (fun v : BitVec 3 => StatusKind.ofNat v.toNat) (StatusCodes.number {}) := by
    intro k
    cases k <;> rfl
  exact hinverse.injective

theorem number_illegalRequest {c : Config} (h : c.conforms = true) : c.codes.number .illegalRequest = 5 :=
  number_of_conforms h .illegalRequest

/-- Settles O43: the numbers are the defaults of the parameters, and they are told apart by their inverse. -/
theorem outcomesHaveTheirStatusNumbers : Obligations.OutcomesHaveTheirStatusNumbers := by
  intro cfg hc
  have hnumber := number_of_conforms hc
  exact ⟨hnumber .ok, hnumber .busAttachError, hnumber .deviceNotResponding, hnumber .transportError,
    hnumber .checksumError, hnumber .illegalRequest, fun _ _ heq => number_injective hc heq⟩

/-! ### The answer to an illegal request (R90, R199) -/

/-- What a refused request leaves of a conforming block, and the one `Rsp` it is answered with. -/
theorem refuseRequest_clearResult {s : State} (h : s.cfg.conforms = true) :
    refuseRequest (clearResult s) = { s with
      resKind := .none
      crcfail := 0
      status := 5
      sent := s.sent ++ [.rsp { status := 5, errdetail := none, crcfail := 0, resKind := .none
                                tempQ16 := none, rhQ16 := none, serial := none }] } := by
  rw [← number_illegalRequest h]
  rfl

/-- Settles O31: each of the illegal forms is refused with the last result cleared. -/
theorem illegalRequestsAreAnsweredAndChangeNothingElse :
    Obligations.IllegalRequestsAreAnsweredAndChangeNothingElse := by
  intro s t hc hp ht
  rw [← refuseRequest_clearResult hc] at ht
  subst ht
  refine ⟨fun hr bus speed timeout => ?_, fun hr timeout => ⟨?_, ?_⟩, fun bus speed timeout => ?_⟩
  · simp only [exec, execInitializeDevice, hr]
    exact acceptRequest_of_illegal _ hp
  · simp only [exec, execReadMeasurement, hr]
    exact acceptRequest_of_illegal _ hp
  · simp only [exec, execReadSerialNumber, hr]
    exact acceptRequest_of_illegal _ hp
  · have hopSel := conforms_opSel hc
    exact onRequest_of_illegal bus speed timeout hp (by simp [hopSel]) (by simp [hopSel])

/-! ### What an error leaves of the block (R200, R203) -/

/-- From `s` to `t` no data has been returned, and `READY` has not changed. -/
def ReturnsNoData (s t : State) : Prop :=
  t.ready = s.ready ∧ t.resKind = .none ∧ t.tempQ16 = s.tempQ16 ∧ t.rhQ16 = s.rhQ16 ∧ t.serial = s.serial

theorem returnsNoData_raiseWith (k : StatusKind) (e : ErrCode) (s : State) : ReturnsNoData s (raiseWith k e s) :=
  ⟨rfl, rfl, rfl, rfl, rfl⟩

theorem returnsNoData_onRequest {op : BitVec 2} {bus : BusHandle} {speed : Nat} {timeout : Timeout} {s t : State}
    (h : onRequest op bus speed timeout s = .next t) : ReturnsNoData s t := by
  obtain ⟨-, ⟨-, -, rfl⟩ | ⟨-, -, -, rfl⟩ | ⟨-, -, -, -, rfl⟩ | ⟨-, -, rfl⟩⟩ := onRequest_cases h
  all_goals exact ⟨rfl, rfl, rfl, rfl, rfl⟩

/-- A successful transfer that does not end its operation with success is a `ChecksumError`. -/
theorem returnsNoData_takeResponse {r : Rsp48} {s t : State} (h : takeResponse r s = .ok t)
    (hst : t.status ≠ s.cfg.codes.number .ok) : ReturnsNoData s t := by
  obtain ⟨m, v, rfl | ⟨-, rfl⟩ | ⟨-, a, b, rfl⟩ | ⟨-, a, rfl⟩⟩ := takeResponse_ends h
  · exact ⟨rfl, rfl, rfl, rfl, rfl⟩
  · exact absurd rfl hst
  · exact absurd rfl hst
  · exact absurd rfl hst

/-- A step that ends an operation without success returns no data, whatever the error and wherever it is raised. -/
theorem returnsNoData_step {s t : State} (h : step s = .next t) (hsent : t.sent ≠ s.sent) (hidle : t.phase = .idle)
    (hst : t.status ≠ s.cfg.codes.number .ok) : ReturnsNoData s t := by
  rcases step_next_cases h with
    ⟨-, rfl⟩ | ⟨rest, -, rfl⟩ | ⟨op, bus, speed, timeout, rest, -, hreq⟩ | ⟨d, rest, -, -, rfl⟩ |
    ⟨e, rest, -, -, rfl⟩ | ⟨r, rest, -, -, hresp⟩ | ⟨e, rest, -, -, rfl⟩
  · exact absurd rfl hsent
  · exact absurd rfl hsent
  · exact returnsNoData_onRequest (s := dequeue rest s) hreq
  · cases hidle
  · exact returnsNoData_raiseWith _ e (dequeue rest s)
  · exact returnsNoData_takeResponse (s := dequeue rest s) hresp hst
  · exact returnsNoData_raiseWith _ e (loseScratch (dequeue rest s))

/-- Settles O57: `Rsp` is the copy of the registers the ended operation leaves, and of the ends only success returns
data or sets `READY`. -/
theorem errorsReturnNoDataAndKeepReady : Obligations.ErrorsReturnNoDataAndKeepReady := by
  intro s t r hc h hr herr
  obtain ⟨k, ⟨hidle, -, -⟩, rfl⟩ := endsWith_of_step h hr
  rw [← number_ok hc] at herr
  obtain ⟨hready, hkind, htemp, hrh, hserial⟩ := returnsNoData_step h (by simp [hr]) hidle herr
  rw [responseOf_of_resKind_none _ hkind rfl]
  exact ⟨rfl, hready, hidle, hkind, htemp, hrh, hserial, rfl, rfl, rfl, rfl⟩

end Sys2Proof.Machine
end

section
/-! PROOFS. The family of 70_reset_and_hazards.md: the wait without end (R238), and a run that is over (R242). -/

namespace Sys2Proof.Machine

/-! ### The wait without end (R238) -/

theorem step_of_empty_inbox {s : State} (h : s.inbox = []) : step s = .next s := by
  simp only [step, advance, h]

/-- Settles O46, by induction on the number of steps: each of them is the wait. -/
theorem blockWaitsForEverWithoutAMessage : Obligations.BlockWaitsForEverWithoutAMessage := by
  intro n s hin
  induction n with
  | zero => rfl
  | succ n ih => exact (run_succ_of_step n (step_of_empty_inbox hin)).trans ih

/-! ### A run that is over (R242) -/

/-- An idle block to which no request is still to come can only wait or take an `rst` edge: an answer that arrives has
no step there (R178). -/
theorem step_cases_of_runOver {s t : State} (hover : s.runOver = true) (h : step s = .next t) :
    t = s ∨ ∃ rest, s.inbox = .rst :: rest ∧ t = applyReset (dequeue rest s) := by
  obtain ⟨hidle, hnoReq⟩ := (runOver_iff s).mp hover
  rcases step_next_cases h with
    ⟨-, hwait⟩ | hrst | ⟨op, bus, speed, timeout, rest, hin, -⟩ | ⟨d, rest, -, hp, -⟩ |
    ⟨e, rest, -, hp, -⟩ | ⟨r, rest, -, hp, -⟩ | ⟨e, rest, -, hp, -⟩
  · exact .inl hwait
  · exact .inr hrst
  · have hreq : (Input.req op bus speed timeout).isRequest = false := hnoReq _ (by simp [hin])
    cases hreq
  all_goals cases hidle.symm.trans hp

/-- An `rst` edge leaves the block idle, and the messages after it are still no requests. -/
theorem runOver_applyReset_dequeue {s : State} {rest : List Input} (hover : s.runOver = true)
    (hin : s.inbox = .rst :: rest) : (applyReset (dequeue rest s)).runOver = true := by
  obtain ⟨-, hnoReq⟩ := (runOver_iff s).mp hover
  exact (runOver_iff _).mpr ⟨rfl, fun m hm => hnoReq m (by rw [hin]; exact .tail _ hm)⟩

/-- Settles O59: neither the wait nor an `rst` edge sends anything or starts an operation. -/
theorem runThatIsOverSendsNothingMore : Obligations.RunThatIsOverSendsNothingMore := by
  intro s t hover h
  obtain rfl | ⟨rest, hin, rfl⟩ := step_cases_of_runOver hover h
  · exact ⟨hover, rfl⟩
  · exact ⟨runOver_applyReset_dequeue hover hin, rfl⟩

end Sys2Proof.Machine
end

section
/-! PROOFS. The family of the round trips between instructions and frames (R82, R86, R88), and the words of
spec/opcode_table.json. -/

namespace Sys2Proof

/-! ### Decoding a command byte, encoding a wire command (R82, R88) -/

theorem decode_cmd8_of_some {cfg : Config} {b : Byte} {c : Command} (h : Command.ofOpcode cfg b = some c) :
    decode cfg (.cmd8 b) = .ok c.instr := by
  simp only [decode, h]

/-- A command byte decodes to an instruction only as the opcode of a command, under any parameters. -/
theorem decode_cmd8_cases {cfg : Config} {b : Byte} {i : Instr} (h : decode cfg (.cmd8 b) = .ok i) :
    ∃ c : Command, b = Command.opcode cfg c ∧ i = c.instr := by
  cases hc : Command.ofOpcode cfg b with
  | none => cases (decode_cmd8_of_none hc).symm.trans h
  | some c =>
    cases (decode_cmd8_of_some hc).symm.trans h
    exact ⟨c, Command.eq_opcode_of_ofOpcode hc, rfl⟩

theorem encode_instr (cfg : Config) (c : Command) : encode cfg c.instr = .cmd8 (Command.opcode cfg c) := by
  cases c <;> rfl

/-- A wire command survives its encoding, in every conforming block. -/
theorem decode_encode_instr {cfg : Config} (hc : cfg.conforms = true) (c : Command) :
    decode cfg (encode cfg c.instr) = .ok c.instr := by
  obtain ⟨hof, -⟩ := commandBytesDecodeToTheirCommandOnly cfg (Command.opcode cfg c) hc
  rw [encode_instr]
  exact decode_cmd8_of_some ((hof c).mpr rfl)

/-! ### Decode after encode -/

/-- Settles O6: a wire command is sent as its opcode, a host operation with the op number that selects it (D14). -/
theorem decodeOfEncodeGivesTheInstruction : Obligations.DecodeOfEncodeGivesTheInstruction := by
  intro cfg i hc _
  have hreq := fun bus speed timeout => hostRequestsDecodeByTheirOpField cfg bus speed timeout hc
  have hop : cfg.opSel = {} := Machine.conforms_opSel hc
  cases i with
  | measHp => exact decode_encode_instr hc .measureHighPrecision
  | readSn => exact decode_encode_instr hc .readSerialNumber
  | initializeDevice bus speed timeout =>
    obtain ⟨hinit, -, -, -⟩ := hreq bus speed timeout
    simpa only [encode, hop] using hinit
  | readMeasurement timeout =>
    obtain ⟨-, hmeas, -, -⟩ := hreq ⟨0⟩ 0 timeout
    simpa only [encode, hop] using hmeas
  | readSerialNumber timeout =>
    obtain ⟨-, -, hread, -⟩ := hreq ⟨0⟩ 0 timeout
    simpa only [encode, hop] using hread

/-! ### Encode after decode -/

/-- A request decodes to an instruction only when its `op` field is the number of a host operation, under any
parameters, and then to that operation with the operands it reads. -/
theorem decode_hreq_cases {cfg : Config} {op : BitVec 2} {bus : BusHandle} {speed : Nat} {timeout : Timeout}
    {i : Instr} (h : decode cfg (.hreq op bus speed timeout) = .ok i) :
    (op = cfg.opSel.opInit ∧ i = .initializeDevice bus speed timeout) ∨
    (op = cfg.opSel.opMeas ∧ i = .readMeasurement timeout) ∨
    (op = cfg.opSel.opRdsn ∧ i = .readSerialNumber timeout) := by
  simp only [decode] at h
  split_ifs at h with hinit hmeas hread <;> cases h
  · exact .inl ⟨hinit, rfl⟩
  · exact .inr (.inl ⟨hmeas, rfl⟩)
  · exact .inr (.inr ⟨hread, rfl⟩)

/-- Settles O7: the decoder selects an instruction by the very opcode or op number that the encoder sends for it. -/
theorem encodeOfDecodeGivesTheSameBits : Obligations.EncodeOfDecodeGivesTheSameBits := by
  intro cfg f i h
  cases f with
  | cmd8 b =>
    obtain ⟨c, rfl, rfl⟩ := decode_cmd8_cases h
    rw [encode_instr]
  | hreq op bus speed timeout =>
    obtain ⟨rfl, rfl⟩ | ⟨rfl, rfl⟩ | ⟨rfl, rfl⟩ := decode_hreq_cases h
    all_goals rfl

/-! ### The words of the opcode table -/

/-- A table word means what its frame decodes to, and nothing where the decoder rejects the frame. -/
theorem decodeTableWord_of_decode {nbits w : Nat} {f : Frame} {r : Except DecodeError Instr}
    (hf : Frame.ofTableWord nbits w = some f) (hr : decode Config.default f = r) :
    decodeTableWord nbits w = r.toOption := by
  simp only [decodeTableWord, hf, hr]
  cases r <;> rfl

/-- Settles O4: each word is the frame of one command byte or op number, which the default block decodes as every
conforming block does. -/
theorem tableWordsDecodeToTheirRows : Obligations.TableWordsDecodeToTheirRows := by
  have hc : Config.default.conforms = true := by decide
  have hmeasHp := decode_encode_instr hc .measureHighPrecision
  have hreadSn := decode_encode_instr hc .readSerialNumber
  obtain ⟨-, hother⟩ := commandBytesDecodeToTheirCommandOnly Config.default 0x94#8 hc
  obtain ⟨-, hnone⟩ := hother (by decide) (by decide)
  obtain ⟨hinit, hmeas, hread, hreserved⟩ :=
    hostRequestsDecodeByTheirOpField Config.default ⟨0⟩ 0 (.finite 0) hc
  exact ⟨decodeTableWord_of_decode rfl hmeasHp, decodeTableWord_of_decode rfl hreadSn,
    decodeTableWord_of_decode rfl hinit, decodeTableWord_of_decode rfl hmeas, decodeTableWord_of_decode rfl hread,
    decodeTableWord_of_decode rfl hreserved, decodeTableWord_of_decode rfl hnone⟩

end Sys2Proof
end
